-- ==== Sys2Proof/Word.lean ====
section
/-! DEFINITION. The byte of the line link. Counts, positions and speeds are natural numbers and signed values are integers,
since the manual states each with its own limit and says where it saturates or wraps. -/

namespace Sys2Proof

/-- One byte of a frame on the line link (R192). -/
abbrev Byte := BitVec 8

end Sys2Proof
end

