-- ==== Sys2Proof/Syntax.lean ====
section
/-! DEFINITION. The commands of the part: one constructor of `Instr` for each row of spec/opcode_table.json, and the typed
request that a frame carries. Request fields have the widths of the request index (R180, R192). -/

namespace Sys2Proof

/-- The six masters, numbered 1 to 6 by role (conventions, Masters and roles). -/
inductive Master where
  | line | drive | quality | rewind | label | plant
  deriving DecidableEq, Repr

/-- The lanes 0 to 5. -/
inductive Lane where
  | l0 | l1 | l2 | l3 | l4 | l5
  deriving DecidableEq, Repr

/-- The stations of the register unit: followers 1 to 6 and the embosser, 7. -/
inductive Station where
  | s1 | s2 | s3 | s4 | s5 | s6 | s7
  deriving DecidableEq, Repr

/-- A transition of the encoder inputs (R1): an edge on one input with the level it takes and the level of the other input at
the edge, or a change of both inputs together. -/
inductive EncoderEdge where
  | onA (level other : Bool)
  | onB (level other : Bool)
  | together
  deriving DecidableEq, Repr

/-- A request with its payload fields, in the order of the request index. Load Job keeps its payload as bytes, because R43
checks their length against their content. -/
inductive Request where
  | status (mask : BitVec 16)
  | readRepeat (serial : BitVec 32)
  | readRolls (rollId : BitVec 32)
  | readNotices
  | setNoticeMask (mask : BitVec 16)
  | claim (level : BitVec 8) (speed : BitVec 16)
  | release
  | setGeometry (dCut dSp eNip : BitVec 32)
  | loadJob (payload : List Byte)
  | armJob
  | endJob
  | lineReset
  | setBroadcast (setting : BitVec 8)
  | takeTrims
  | teachOffsets
  | embossHold
  | embossRelease
  | startRoll (mask : BitVec 8)
  | cutFault (lane : BitVec 8) (rollId : BitVec 32)
  | reseedSampling
  | setSeedLock (setting : BitVec 8)
  | readSamplePlan
  | shadeSample (serial : BitVec 32) (lane : BitVec 8) (lightness redGreen yellowBlue : BitVec 16)
  | defectMark (serial : BitVec 32) (lane count : BitVec 8)
  | closeBatch (number : BitVec 16)
  | retireBatch (number : BitVec 16)
  | readBatches
  | takeLabel
  | labelApplied (rollId : BitVec 32)
  | relabel (rollId : BitVec 32)
  | setRunSpeed (run crawl : BitVec 16)
  | setClaimGate (setting : BitVec 8)
  deriving DecidableEq, Repr

/-- The commands. A request row is a whole well-formed frame sent to the part's link address by master `m` with tag `tag`
(notes/assumptions/4.md). START_DELIMITER carries the data bytes that follow it (notes/assumptions/11.md). -/
inductive Instr where
  | encoderEdge (edge : EncoderEdge)
  | intervalTimer
  | referenceMark
  | spliceEdge
  | stationMark (station : Station)
  | strobeEnd (lane : Lane)
  | startDelimiter (data : List Byte)
  | framePause
  | endDelimiter
  | segmentSend
  | finalSegmentEnd
  | status (m : Master) (tag : Byte) (mask : BitVec 16)
  | readRepeat (m : Master) (tag : Byte) (serial : BitVec 32)
  | readRolls (m : Master) (tag : Byte) (rollId : BitVec 32)
  | readNotices (m : Master) (tag : Byte)
  | setNoticeMask (m : Master) (tag : Byte) (mask : BitVec 16)
  | claim (m : Master) (tag : Byte) (level : BitVec 8) (speed : BitVec 16)
  | release (m : Master) (tag : Byte)
  | setGeometry (m : Master) (tag : Byte) (dCut dSp eNip : BitVec 32)
  | loadJob (m : Master) (tag : Byte) (payload : List Byte)
  | armJob (m : Master) (tag : Byte)
  | endJob (m : Master) (tag : Byte)
  | lineReset (m : Master) (tag : Byte)
  | setBroadcast (m : Master) (tag : Byte) (setting : BitVec 8)
  | takeTrims (m : Master) (tag : Byte)
  | teachOffsets (m : Master) (tag : Byte)
  | embossHold (m : Master) (tag : Byte)
  | embossRelease (m : Master) (tag : Byte)
  | startRoll (m : Master) (tag : Byte) (mask : BitVec 8)
  | cutFault (m : Master) (tag : Byte) (lane : BitVec 8) (rollId : BitVec 32)
  | reseedSampling (m : Master) (tag : Byte)
  | setSeedLock (m : Master) (tag : Byte) (setting : BitVec 8)
  | readSamplePlan (m : Master) (tag : Byte)
  | shadeSample (m : Master) (tag : Byte) (serial : BitVec 32) (lane : BitVec 8) (lightness redGreen yellowBlue : BitVec 16)
  | defectMark (m : Master) (tag : Byte) (serial : BitVec 32) (lane count : BitVec 8)
  | closeBatch (m : Master) (tag : Byte) (number : BitVec 16)
  | retireBatch (m : Master) (tag : Byte) (number : BitVec 16)
  | readBatches (m : Master) (tag : Byte)
  | takeLabel (m : Master) (tag : Byte)
  | labelApplied (m : Master) (tag : Byte) (rollId : BitVec 32)
  | relabel (m : Master) (tag : Byte) (rollId : BitVec 32)
  | setRunSpeed (m : Master) (tag : Byte) (run crawl : BitVec 16)
  | setClaimGate (m : Master) (tag : Byte) (setting : BitVec 8)
  | deviceReset
  | deviceResetRelease (adr0 adr1 adr2 : Bool)
  deriving DecidableEq, Repr

/-- The request that a request row carries, with its sender and tag; none for an event. -/
def Instr.request : Instr → Option (Master × Byte × Request)
  | .encoderEdge _ | .intervalTimer | .referenceMark | .spliceEdge | .stationMark _ | .strobeEnd _ => none
  | .startDelimiter _ | .framePause | .endDelimiter | .segmentSend | .finalSegmentEnd => none
  | .status m t mask => some (m, t, .status mask)
  | .readRepeat m t serial => some (m, t, .readRepeat serial)
  | .readRolls m t rollId => some (m, t, .readRolls rollId)
  | .readNotices m t => some (m, t, .readNotices)
  | .setNoticeMask m t mask => some (m, t, .setNoticeMask mask)
  | .claim m t level speed => some (m, t, .claim level speed)
  | .release m t => some (m, t, .release)
  | .setGeometry m t dCut dSp eNip => some (m, t, .setGeometry dCut dSp eNip)
  | .loadJob m t payload => some (m, t, .loadJob payload)
  | .armJob m t => some (m, t, .armJob)
  | .endJob m t => some (m, t, .endJob)
  | .lineReset m t => some (m, t, .lineReset)
  | .setBroadcast m t setting => some (m, t, .setBroadcast setting)
  | .takeTrims m t => some (m, t, .takeTrims)
  | .teachOffsets m t => some (m, t, .teachOffsets)
  | .embossHold m t => some (m, t, .embossHold)
  | .embossRelease m t => some (m, t, .embossRelease)
  | .startRoll m t mask => some (m, t, .startRoll mask)
  | .cutFault m t lane rollId => some (m, t, .cutFault lane rollId)
  | .reseedSampling m t => some (m, t, .reseedSampling)
  | .setSeedLock m t setting => some (m, t, .setSeedLock setting)
  | .readSamplePlan m t => some (m, t, .readSamplePlan)
  | .shadeSample m t serial lane l a b => some (m, t, .shadeSample serial lane l a b)
  | .defectMark m t serial lane count => some (m, t, .defectMark serial lane count)
  | .closeBatch m t number => some (m, t, .closeBatch number)
  | .retireBatch m t number => some (m, t, .retireBatch number)
  | .readBatches m t => some (m, t, .readBatches)
  | .takeLabel m t => some (m, t, .takeLabel)
  | .labelApplied m t rollId => some (m, t, .labelApplied rollId)
  | .relabel m t rollId => some (m, t, .relabel rollId)
  | .setRunSpeed m t run crawl => some (m, t, .setRunSpeed run crawl)
  | .setClaimGate m t setting => some (m, t, .setClaimGate setting)
  | .deviceReset | .deviceResetRelease _ _ _ => none

end Sys2Proof
end

