-- ==== Sys2Proof/Config.lean ====
section
/-! DEFINITION. The limits the manual states, and the free values: the choices and values it leaves open, as constants
without a body, so that nothing can be proved of them. -/

namespace Sys2Proof.Config

/-- Greatest line position, 2^48 - 1 (R1). -/
def lineMax : Nat := 2 ^ 48 - 1

/-- Greatest speed, 400.0 m/min in units of 0.1 m/min (conventions, R3). -/
def speedMax : Nat := 4000

/-- Limit of a 16-bit saturating count. -/
def max16 : Nat := 65535

/-- Limit of a 32-bit value. -/
def max32 : Nat := 2 ^ 32 - 1

/-- Greatest stored shade component (R127). -/
def shadeMax : Int := 2000

/-- Places in the splice list (R13). -/
def spliceListMax : Nat := 4

/-- Places in the splice lift list (R88). -/
def liftListMax : Nat := 8

/-- Places in the roll history (R108). -/
def historyMax : Nat := 64

/-- Places in the batch table (R138). -/
def batchMax : Nat := 24

/-- Places in the label queue (R148). -/
def labelMax : Nat := 16

/-- Queue depth at which a close raises the LABEL claim (R150). -/
def labelClaimAt : Nat := 14

/-- Queue depth at which a removal releases the LABEL claim (R150). -/
def labelReleaseAt : Nat := 10

/-- Slots of the ring of repeat records, the bound the job check keeps (R21, R36). -/
def ringMax : Nat := 256

/-- FREE VALUE (notes/assumptions/5.md): which of several crossings at one position is taken first, where the manual says
that either may be (R2, R24, R65, R90). -/
opaque tieChoice : Nat → Nat

/-- FREE VALUE (notes/assumptions/22.md): how many of the crossings that an input edge arrives together with are taken before it,
where the manual says that either may be taken first (R8, R15, R65, R67). -/
opaque crossingsBeforeInput : Nat → Nat

/-- FREE VALUE (notes/assumptions/3.md): the serial counter after serial 2^32 - 1, which no rule gives. -/
opaque serialPastLast : Nat → BitVec 32

/-- FREE VALUE (notes/assumptions/3.md): an open roll's repeat count after a fold onto 65535, which no rule gives. -/
opaque repeatCountPast : Nat → BitVec 16

/-- FREE VALUE (notes/assumptions/3.md): a shade sum after a fold that leaves its signed 32-bit range, which no rule gives. -/
opaque shadeSumPast : Nat → BitVec 32

end Sys2Proof.Config
end

