-- ==== Sys2Proof/Machine/State.lean ====
section
/-! DEFINITION. The state of the part: the state that each block holds (the tables at the head of each chapter), the pins,
the model's own fields and the queue of waiting commands; and the state right after device reset. -/

namespace Sys2Proof.Machine

/-! ### Tables with one entry for each lane, station, master, claim slot or notice kind -/

/-- One entry for each of lanes 0 to 5. -/
structure PerLane (α : Type) where
  l0 : α
  l1 : α
  l2 : α
  l3 : α
  l4 : α
  l5 : α
  deriving DecidableEq, Repr

/-- The entry of `i`. -/
def PerLane.get {α : Type} (t : PerLane α) : Lane → α
  | .l0 => t.l0
  | .l1 => t.l1
  | .l2 => t.l2
  | .l3 => t.l3
  | .l4 => t.l4
  | .l5 => t.l5

/-- `t` with the entry of `i` replaced by `v`. -/
def PerLane.set {α : Type} (t : PerLane α) (i : Lane) (v : α) : PerLane α :=
  match i with
  | .l0 => { t with l0 := v }
  | .l1 => { t with l1 := v }
  | .l2 => { t with l2 := v }
  | .l3 => { t with l3 := v }
  | .l4 => { t with l4 := v }
  | .l5 => { t with l5 := v }

/-- The table whose entry of `i` is `f i`. -/
def PerLane.tabulate {α : Type} (f : Lane → α) : PerLane α :=
  ⟨f .l0, f .l1, f .l2, f .l3, f .l4, f .l5⟩

/-- One entry for each of stations 1 to 7. -/
structure PerStation (α : Type) where
  s1 : α
  s2 : α
  s3 : α
  s4 : α
  s5 : α
  s6 : α
  s7 : α
  deriving DecidableEq, Repr

/-- The entry of `i`. -/
def PerStation.get {α : Type} (t : PerStation α) : Station → α
  | .s1 => t.s1
  | .s2 => t.s2
  | .s3 => t.s3
  | .s4 => t.s4
  | .s5 => t.s5
  | .s6 => t.s6
  | .s7 => t.s7

/-- `t` with the entry of `i` replaced by `v`. -/
def PerStation.set {α : Type} (t : PerStation α) (i : Station) (v : α) : PerStation α :=
  match i with
  | .s1 => { t with s1 := v }
  | .s2 => { t with s2 := v }
  | .s3 => { t with s3 := v }
  | .s4 => { t with s4 := v }
  | .s5 => { t with s5 := v }
  | .s6 => { t with s6 := v }
  | .s7 => { t with s7 := v }

/-- The table whose entry of `i` is `f i`. -/
def PerStation.tabulate {α : Type} (f : Station → α) : PerStation α :=
  ⟨f .s1, f .s2, f .s3, f .s4, f .s5, f .s6, f .s7⟩

/-- One entry for each of masters 1 to 6. -/
structure PerMaster (α : Type) where
  line : α
  drive : α
  quality : α
  rewind : α
  label : α
  plant : α
  deriving DecidableEq, Repr

/-- The entry of `i`. -/
def PerMaster.get {α : Type} (t : PerMaster α) : Master → α
  | .line => t.line
  | .drive => t.drive
  | .quality => t.quality
  | .rewind => t.rewind
  | .label => t.label
  | .plant => t.plant

/-- `t` with the entry of `i` replaced by `v`. -/
def PerMaster.set {α : Type} (t : PerMaster α) (i : Master) (v : α) : PerMaster α :=
  match i with
  | .line => { t with line := v }
  | .drive => { t with drive := v }
  | .quality => { t with quality := v }
  | .rewind => { t with rewind := v }
  | .label => { t with label := v }
  | .plant => { t with plant := v }

/-- The table whose entry of `i` is `f i`. -/
def PerMaster.tabulate {α : Type} (f : Master → α) : PerMaster α :=
  ⟨f .line, f .drive, f .quality, f .rewind, f .label, f .plant⟩

/-- The nine claim slots, in their fixed order (Claim slots, R166). -/
inductive Slot where
  | ref | reg | label | m1 | m2 | m3 | m4 | m5 | m6
  deriving DecidableEq, Repr

/-- One entry for each claim slot. -/
structure PerSlot (α : Type) where
  ref : α
  reg : α
  label : α
  m1 : α
  m2 : α
  m3 : α
  m4 : α
  m5 : α
  m6 : α
  deriving DecidableEq, Repr

/-- The entry of `i`. -/
def PerSlot.get {α : Type} (t : PerSlot α) : Slot → α
  | .ref => t.ref
  | .reg => t.reg
  | .label => t.label
  | .m1 => t.m1
  | .m2 => t.m2
  | .m3 => t.m3
  | .m4 => t.m4
  | .m5 => t.m5
  | .m6 => t.m6

/-- `t` with the entry of `i` replaced by `v`. -/
def PerSlot.set {α : Type} (t : PerSlot α) (i : Slot) (v : α) : PerSlot α :=
  match i with
  | .ref => { t with ref := v }
  | .reg => { t with reg := v }
  | .label => { t with label := v }
  | .m1 => { t with m1 := v }
  | .m2 => { t with m2 := v }
  | .m3 => { t with m3 := v }
  | .m4 => { t with m4 := v }
  | .m5 => { t with m5 := v }
  | .m6 => { t with m6 := v }

/-- The table whose entry of `i` is `f i`. -/
def PerSlot.tabulate {α : Type} (f : Slot → α) : PerSlot α :=
  ⟨f .ref, f .reg, f .label, f .m1, f .m2, f .m3, f .m4, f .m5, f .m6⟩

/-- The fourteen notice kinds, in the order of their numbers (the notice table, R183). -/
inductive NoticeKind where
  | refLost
  | refLocked
  | stationLost
  | jobSwitched
  | jobClear
  | spliceSeen
  | spliceListFull
  | rollClosed
  | labelReady
  | labelOverrun
  | batchNew
  | offshade
  | claimChange
  | embossChange
  deriving DecidableEq, Repr

/-- One entry for each notice kind. -/
structure PerKind (α : Type) where
  refLost : α
  refLocked : α
  stationLost : α
  jobSwitched : α
  jobClear : α
  spliceSeen : α
  spliceListFull : α
  rollClosed : α
  labelReady : α
  labelOverrun : α
  batchNew : α
  offshade : α
  claimChange : α
  embossChange : α
  deriving DecidableEq, Repr

/-- The entry of `i`. -/
def PerKind.get {α : Type} (t : PerKind α) : NoticeKind → α
  | .refLost => t.refLost
  | .refLocked => t.refLocked
  | .stationLost => t.stationLost
  | .jobSwitched => t.jobSwitched
  | .jobClear => t.jobClear
  | .spliceSeen => t.spliceSeen
  | .spliceListFull => t.spliceListFull
  | .rollClosed => t.rollClosed
  | .labelReady => t.labelReady
  | .labelOverrun => t.labelOverrun
  | .batchNew => t.batchNew
  | .offshade => t.offshade
  | .claimChange => t.claimChange
  | .embossChange => t.embossChange

/-- `t` with the entry of `i` replaced by `v`. -/
def PerKind.set {α : Type} (t : PerKind α) (i : NoticeKind) (v : α) : PerKind α :=
  match i with
  | .refLost => { t with refLost := v }
  | .refLocked => { t with refLocked := v }
  | .stationLost => { t with stationLost := v }
  | .jobSwitched => { t with jobSwitched := v }
  | .jobClear => { t with jobClear := v }
  | .spliceSeen => { t with spliceSeen := v }
  | .spliceListFull => { t with spliceListFull := v }
  | .rollClosed => { t with rollClosed := v }
  | .labelReady => { t with labelReady := v }
  | .labelOverrun => { t with labelOverrun := v }
  | .batchNew => { t with batchNew := v }
  | .offshade => { t with offshade := v }
  | .claimChange => { t with claimChange := v }
  | .embossChange => { t with embossChange := v }

/-- The table whose entry of `i` is `f i`. -/
def PerKind.tabulate {α : Type} (f : NoticeKind → α) : PerKind α :=
  ⟨f .refLost, f .refLocked, f .stationLost, f .jobSwitched, f .jobClear, f .spliceSeen, f .spliceListFull, f .rollClosed, f .labelReady, f .labelOverrun, f .batchNew, f .offshade, f .claimChange, f .embossChange⟩

/-- Three shade components: lightness, red-green and yellow-blue (conventions, Shade). -/
structure Shade where
  lightness : Int
  redGreen : Int
  yellowBlue : Int
  deriving DecidableEq, Repr

/-! ### Position unit (Line Position and the Repeat Clock) -/

/-- The states of the reference station (the reference station record). -/
inductive RefState where
  | idle | seeking | locked | coasting | lost
  deriving DecidableEq, Repr

/-- The reference station record. -/
structure RefRecord where
  state : RefState
  newestStart : Option Nat
  synthRun : Nat
  lastError : Int
  strays : Nat
  deriving DecidableEq, Repr

/-- The position unit (R1 to R20). `intervalStart` is the high-water position at the start of the running interval (R3). -/
structure PositionUnit where
  linePos : Nat
  highWater : Nat
  speed : Nat
  intervalStart : Nat
  ref : RefRecord
  nextSerial : Nat
  splices : List Nat
  deriving DecidableEq, Repr

/-! ### Web map -/

/-- A station result (the repeat record). -/
inductive StationResult where
  | pending
  | matched (error : Int)
  | missed
  | skipped
  deriving DecidableEq, Repr

/-- How a repeat came to be created (R6, R7, R9). -/
inductive Origin where
  | marked | synth
  deriving DecidableEq, Repr

/-- The emboss status of a repeat (R26, R90). -/
inductive EmbossStatus where
  | pending | embossed | plain | none
  deriving DecidableEq, Repr

/-- A stored shade sample with its clamped flag (R127). -/
structure Sample where
  shade : Shade
  clamped : Bool
  deriving DecidableEq, Repr

/-- A lane entry of a repeat record (R27). -/
structure LaneEntry where
  lane : Lane
  sample : Option Sample
  defects : Nat
  deriving DecidableEq, Repr

/-- A repeat record (R22). `refResult` is the result of station 0, `results` those of stations 1 to 7. -/
structure Repeat where
  serial : Nat
  start : Nat
  length : Option Nat
  job : Nat
  origin : Origin
  changePoint : Bool
  splice : Bool
  excluded : Bool
  designated : Bool
  refResult : StationResult
  results : PerStation StationResult
  emboss : EmbossStatus
  lanes : List LaneEntry
  deriving DecidableEq, Repr

/-- The web map (R21 to R39). The ring is held oldest first; a cursor waits when no record of the ring has its serial. -/
structure WebMap where
  ring : List Repeat
  extent : Nat
  retired : Nat
  nipCursor : Nat
  knifeCursor : Nat
  deriving DecidableEq, Repr

/-! ### Job unit -/

/-- The line geometry (R40). -/
structure Geometry where
  dCut : Nat
  dSp : Nat
  eNip : Nat
  deriving DecidableEq, Repr

/-- A station entry of a job record: station number 0 to 7, expected offset, gain, deadband and trim limit (fields 6 to 10). -/
structure StationEntry where
  station : Nat
  offset : Nat
  gain : Nat
  deadband : Nat
  trimLimit : Nat
  deriving DecidableEq, Repr

/-- The emboss part of a job record (fields 18 to 20). -/
structure EmbossFields where
  settle : Nat
  lead : Nat
  minSpeed : Nat
  deriving DecidableEq, Repr

/-- A job record (the table of job record fields, R42). The station entries stand in ascending station order. -/
structure JobRecord where
  number : Nat
  pattern : List Byte
  length : Nat
  halfWindow : Nat
  missLimit : Nat
  stations : List StationEntry
  lanes : PerLane Bool
  targetMm : Nat
  cutPhase : Nat
  minRepeats : Nat
  excludeBefore : Nat
  excludeAfter : Nat
  emboss : Option EmbossFields
  registerMinSpeed : Nat
  recoverySpeed : Nat
  batchTolerance : Nat
  spreadLimit : Nat
  minSamples : Nat
  sampleInterval : Nat
  defectLimit : Nat
  batchBase : Nat
  deriving DecidableEq, Repr

/-- The staged slot when it is not empty: a job record and its armed mark (R45). -/
structure StagedJob where
  record : JobRecord
  armed : Bool
  deriving DecidableEq, Repr

/-- The head slot when it is not empty (R44). -/
structure HeadJob where
  record : JobRecord
  firstSerial : Nat
  deriving DecidableEq, Repr

/-- The tail slot when it is not empty (R44). -/
structure TailJob where
  record : JobRecord
  firstSerial : Nat
  lastSerial : Nat
  finalBoundary : Option Nat
  deriving DecidableEq, Repr

/-- The job unit (R40 to R58). -/
structure JobUnit where
  geometry : Geometry
  staged : Option StagedJob
  head : Option HeadJob
  tail : Option TailJob
  deriving DecidableEq, Repr

/-! ### Register unit -/

/-- The states of stations 1 to 7 (R59). -/
inductive StationState where
  | off | armed | tracking | holding | lost
  deriving DecidableEq, Repr

/-- A placed window: the expected position and the half-width about it (R63). -/
structure Window where
  centre : Nat
  halfWidth : Nat
  deriving DecidableEq, Repr

/-- The record of one station (Register Control, the station record table). -/
structure StationRecord where
  state : StationState
  job : Option Nat
  cursor : Option Nat
  accumulator : Int
  trim : Int
  trimSeq : Nat
  saturated : Bool
  lastError : Int
  missRun : Nat
  teachReady : Bool
  matchCount : Nat
  missCount : Nat
  strayCount : Nat
  window : Option Window
  deferredMiss : Bool
  deriving DecidableEq, Repr

/-! ### Emboss unit -/

/-- The states of the embosser (R83). -/
inductive EmbossState where
  | none | lifted | settling | engaged
  deriving DecidableEq, Repr

/-- The emboss part copied from the nip job (R91). -/
structure NipPart where
  settle : Nat
  minSpeed : Nat
  deriving DecidableEq, Repr

/-- The state of a splice lift entry (R89). -/
inductive LiftState where
  | pending | inForce
  deriving DecidableEq, Repr

/-- An entry of the splice lift list (R88). The start can lie before position 0, so it is an integer. -/
structure SpliceLift where
  serial : Nat
  startPos : Int
  endPos : Nat
  state : LiftState
  deriving DecidableEq, Repr

/-- The emboss unit (R83 to R95). -/
structure EmbossUnit where
  state : EmbossState
  nipJob : Option Nat
  part : Option NipPart
  settleCount : Nat
  hold : Bool
  lifts : List SpliceLift
  nipReg : Option Nat
  deriving DecidableEq, Repr

/-! ### Roll unit -/

/-- The state of a lane. -/
inductive LaneState where
  | idle | winding
  deriving DecidableEq, Repr

/-- The accumulators of an open roll (the open roll table, R98). -/
structure OpenRoll where
  rollId : Option Nat
  job : Option Nat
  firstSerial : Option Nat
  lastSerial : Option Nat
  repeats : Nat
  length : Nat
  samples : Nat
  sums : Shade
  minimum : Option Shade
  maximum : Option Shade
  missed : Nat
  defects : Nat
  plain : Nat
  excluded : Nat
  merged : Bool
  carriesPrior : Bool
  deriving DecidableEq, Repr

/-- A lane record. -/
structure LaneRecord where
  state : LaneState
  roll : OpenRoll
  forced : Bool
  lastClosed : Option Nat
  deriving DecidableEq, Repr

/-- The kind of a closed roll (R103). -/
inductive RollKind where
  | standard | short | stub | scrap | merged
  deriving DecidableEq, Repr

/-- The reason a roll was closed (R101, R118). -/
inductive CloseReason where
  | jobEnd | jobChange | zoneStart | zoneEnd | length | forced | lineReset
  deriving DecidableEq, Repr

/-- The grade of a closed roll (Grading a closed roll, R132). -/
inductive Grade where
  | a | b | hold | ungraded | reject
  deriving DecidableEq, Repr

/-- The label state of a closed roll (R108). -/
inductive LabelState where
  | queued | issued | applied | missed | withdrawn
  deriving DecidableEq, Repr

/-- An entry of the roll history (R108). `lengthCounts` is the closed roll's length in web counts, which a merge adds back
(R113, notes/assumptions/7.md). -/
structure HistoryEntry where
  rollId : Nat
  lane : Lane
  job : Nat
  firstSerial : Nat
  lastSerial : Nat
  repeats : Nat
  lengthCounts : Nat
  lengthMm : Nat
  kind : RollKind
  reason : CloseReason
  samples : Nat
  sums : Shade
  minimum : Option Shade
  maximum : Option Shade
  missed : Nat
  defects : Nat
  plain : Nat
  excluded : Nat
  carriesPrior : Bool
  grade : Grade
  means : Option Shade
  spread : Option Nat
  batch : Option Nat
  stamp : Option Nat
  labelState : LabelState
  pattern : List Byte
  deriving DecidableEq, Repr

/-- The knife job with the parameters copied from it (R106). -/
structure KnifeJob where
  number : Nat
  lanes : PerLane Bool
  standardRepeats : Nat
  minRepeats : Nat
  deriving DecidableEq, Repr

/-- The kind of the knife registration (R96). -/
inductive KnifeKind where
  | successorBoundary | finalPosition
  deriving DecidableEq, Repr

/-- The knife registration (R96). -/
structure KnifeReg where
  position : Nat
  kind : KnifeKind
  deriving DecidableEq, Repr

/-- The roll unit (R96 to R119). -/
structure RollUnit where
  knifeJob : Option KnifeJob
  knifeReg : Option KnifeReg
  lanes : PerLane LaneRecord
  nextRollId : Nat
  history : List HistoryEntry
  deriving DecidableEq, Repr

/-! ### Shade unit -/

/-- The state of a batch entry (R138). -/
inductive BatchState where
  | opened | closed
  deriving DecidableEq, Repr

/-- An entry of the batch table (R138). -/
structure BatchEntry where
  number : Nat
  job : Nat
  centre : Shade
  rolls : Nat
  totalMm : Nat
  state : BatchState
  stamp : Nat
  deriving DecidableEq, Repr

/-- The shade unit (R120 to R146). -/
structure ShadeUnit where
  generator : BitVec 10
  seedLock : Bool
  target : Option Nat
  headCounter : Option Nat
  tailCounter : Option Nat
  nextStamp : Nat
  batches : List BatchEntry
  deriving DecidableEq, Repr

/-! ### Label unit -/

/-- Whether a label record was built at the close or by Relabel (R147). -/
inductive Issue where
  | first | reissue
  deriving DecidableEq, Repr

/-- A label record (R147). -/
structure LabelRecord where
  rollId : Nat
  job : Nat
  pattern : List Byte
  lane : Lane
  kind : RollKind
  reason : CloseReason
  grade : Grade
  batch : Option Nat
  repeats : Nat
  lengthMm : Nat
  means : Option Shade
  /-- R131 and R135 write the spread into the label; the layout of R196 has no place for it (notes/assumptions/24.md). -/
  spread : Option Nat
  defects : Nat
  plain : Nat
  issue : Issue
  deriving DecidableEq, Repr

/-- The label unit (R147 to R159). -/
structure LabelUnit where
  queue : List LabelRecord
  claimHeld : Bool
  deriving DecidableEq, Repr

/-! ### Speed authority -/

/-- The claim of a filled slot (R160). -/
structure ClaimValue where
  level : Nat
  speed : Nat
  deriving DecidableEq, Repr

/-- The state of a claim slot (R160); it follows from the slot and the active slot. -/
inductive SlotState where
  | none | held | active
  deriving DecidableEq, Repr

/-- The speed authority (R160 to R174). A slot without a claim is NONE. -/
structure SpeedUnit where
  slots : PerSlot (Option ClaimValue)
  runSpeed : Nat
  crawlSpeed : Nat
  gateOpen : Bool
  active : Option Slot
  granted : Nat
  deriving DecidableEq, Repr

/-! ### Link unit -/

/-- The link state (R175). -/
inductive LinkState where
  | listening | receiving | answering
  deriving DecidableEq, Repr

/-- The last discard reason (R176). -/
inductive DiscardReason where
  | none | framing | length | crc | address | master | broadcast
  deriving DecidableEq, Repr

/-- The outcome codes (Outcome codes). -/
inductive OutcomeCode where
  | ok | empty | badRequest | malformed | notPermitted | badValue | noJob | busy | notFound | late | duplicate | stale | tooLate
  deriving DecidableEq, Repr

/-- What the owning block answers at the moment it takes a request (R180): the outcome and the values it gives, laid out
as bytes. -/
structure Answer where
  outcome : OutcomeCode
  values : List Byte
  deriving DecidableEq, Repr

/-- The response being sent (R181): whom and what it answers, and how many of its segments have begun. -/
structure Response where
  master : Byte
  code : Byte
  tag : Byte
  answer : Answer
  begun : Nat
  deriving DecidableEq, Repr

/-- The link unit (R175 to R189). `gathered` holds the bytes since the start delimiter of the frame in progress. A pending
count of 0 means that the kind is not in the set. -/
structure LinkUnit where
  address : Byte
  broadcast : Bool
  state : LinkState
  gathered : List Byte
  discards : Nat
  lastReason : DiscardReason
  masks : PerMaster (PerKind Bool)
  notices : PerMaster (PerKind Nat)
  response : Option Response
  deriving DecidableEq, Repr

/-! ### Pins and the model's own fields -/

/-- Pins that hold a level of their own: RESET_N held low, and the knife outputs (R102, R190). EL, ATN1 to ATN6 and the link
pair follow from the blocks (R83, R184, R181) and are given in Flags.lean. -/
structure Pins where
  resetLow : Bool
  knives : PerLane Bool
  deriving DecidableEq, Repr

/-- The model's own fields, not the part's. `aLeadsForward`: which encoder signal leads in forward travel, a free value of
the wiring that no step changes (notes/assumptions/2.md). `draws`: how many free values have been drawn
(notes/assumptions/3.md, 5.md). `embossNoticed`: the event being taken has raised EMBOSS_CHANGE already; false between
commands (notes/assumptions/6.md). -/
structure ModelFields where
  aLeadsForward : Bool
  draws : Nat
  embossNoticed : Bool
  deriving DecidableEq, Repr

/-- The whole state: the ten blocks, the pins, the model's own fields and the commands that wait, first in, first out. -/
structure State where
  pos : PositionUnit
  map : WebMap
  jobs : JobUnit
  register : PerStation StationRecord
  emboss : EmbossUnit
  rolls : RollUnit
  shade : ShadeUnit
  labels : LabelUnit
  speed : SpeedUnit
  link : LinkUnit
  pins : Pins
  model : ModelFields
  pending : List Instr
  deriving DecidableEq, Repr

/-- Why a step stops with a fault. The manual describes no event after which the part stops, so there is no constructor:
no meaning faults. -/
inductive Fault where
  deriving DecidableEq, Repr

/-- Why a step refuses a command. -/
inductive Refusal where
  /-- A command of the table without a meaning; no arm of `exec` raises it. Safe: nothing is claimed of the command. -/
  | notModelled (mnemonic : String)
  deriving DecidableEq, Repr

/-! ### Updates of one block -/

/-- `s` with the field `pos` replaced. -/
def State.withPos (s : State) (v : PositionUnit) : State := { s with pos := v }

/-- `s` with the field `map` replaced. -/
def State.withMap (s : State) (v : WebMap) : State := { s with map := v }

/-- `s` with the field `jobs` replaced. -/
def State.withJobs (s : State) (v : JobUnit) : State := { s with jobs := v }

/-- `s` with the field `register` replaced. -/
def State.withRegister (s : State) (v : PerStation StationRecord) : State := { s with register := v }

/-- `s` with the field `emboss` replaced. -/
def State.withEmboss (s : State) (v : EmbossUnit) : State := { s with emboss := v }

/-- `s` with the field `rolls` replaced. -/
def State.withRolls (s : State) (v : RollUnit) : State := { s with rolls := v }

/-- `s` with the field `shade` replaced. -/
def State.withShade (s : State) (v : ShadeUnit) : State := { s with shade := v }

/-- `s` with the field `labels` replaced. -/
def State.withLabels (s : State) (v : LabelUnit) : State := { s with labels := v }

/-- `s` with the field `speed` replaced. -/
def State.withSpeed (s : State) (v : SpeedUnit) : State := { s with speed := v }

/-- `s` with the field `link` replaced. -/
def State.withLink (s : State) (v : LinkUnit) : State := { s with link := v }

/-- `s` with the field `pins` replaced. -/
def State.withPins (s : State) (v : Pins) : State := { s with pins := v }

/-- `s` with the field `model` replaced. -/
def State.withModel (s : State) (v : ModelFields) : State := { s with model := v }

/-- `s` with the field `pending` replaced. -/
def State.withPending (s : State) (v : List Instr) : State := { s with pending := v }

/-! ### The state after device reset -/

/-- The reference station record after a reset. -/
def RefRecord.reset : RefRecord :=
  { state := .idle, newestStart := none, synthRun := 0, lastError := 0, strays := 0 }

/-- The record of an OFF station: its values after both resets (the station record table). -/
def StationRecord.off : StationRecord :=
  { state := .off, job := none, cursor := none, accumulator := 0, trim := 0, trimSeq := 0, saturated := false,
    lastError := 0, missRun := 0, teachReady := false, matchCount := 0, missCount := 0, strayCount := 0,
    window := none, deferredMiss := false }

/-- The shade with all components 0. -/
def Shade.zero : Shade := { lightness := 0, redGreen := 0, yellowBlue := 0 }

/-- An empty open roll of a job (the open roll table, column Empty roll). -/
def OpenRoll.empty (job : Option Nat) : OpenRoll :=
  { rollId := none, job := job, firstSerial := none, lastSerial := none, repeats := 0, length := 0, samples := 0,
    sums := Shade.zero, minimum := none, maximum := none, missed := 0, defects := 0, plain := 0, excluded := 0,
    merged := false, carriesPrior := false }

/-- An IDLE lane that has closed the roll `last`; its empty open roll is of the knife job (the open roll table). -/
def LaneRecord.idle (job last : Option Nat) : LaneRecord :=
  { state := .idle, roll := OpenRoll.empty job, forced := false, lastClosed := last }

/-- The emboss unit after a reset (R95). -/
def EmbossUnit.reset : EmbossUnit :=
  { state := .none, nipJob := none, part := none, settleCount := 0, hold := false, lifts := [], nipReg := none }

/-- The default notice mask of each role (the notice table). -/
def defaultMask (m : Master) : PerKind Bool :=
  PerKind.tabulate fun k =>
    match k with
    | .refLost => m == .line || m == .drive || m == .plant
    | .refLocked => m == .line || m == .drive
    | .stationLost => m == .line || m == .drive || m == .plant
    | .jobSwitched => m == .line || m == .drive || m == .quality || m == .rewind
    | .jobClear => m == .line || m == .drive || m == .quality || m == .rewind || m == .plant
    | .spliceSeen => m == .line || m == .quality
    | .spliceListFull => m == .line
    | .rollClosed => m == .rewind
    | .labelReady => m == .label
    | .labelOverrun => m == .label || m == .plant
    | .batchNew => m == .plant
    | .offshade => m == .plant
    | .claimChange => m == .line || m == .plant
    | .embossChange => m == .line

/-- The state right after device reset has been released: every block at its device-reset value (R20, R38, R57, R82, R95,
R119, R146, R159, R174, R189, R190), the straps read low (DESIGN CHOICE, notes/assumptions/1.md), no command waiting. -/
def State.reset : State where
  pos := { linePos := 0, highWater := 0, speed := 0, intervalStart := 0, ref := RefRecord.reset, nextSerial := 1, splices := [] }
  map := { ring := [], extent := 0, retired := 0, nipCursor := 1, knifeCursor := 1 }
  jobs := { geometry := { dCut := 200000, dSp := 0, eNip := 100000 }, staged := none, head := none, tail := none }
  register := PerStation.tabulate fun _ => StationRecord.off
  emboss := EmbossUnit.reset
  rolls := { knifeJob := none, knifeReg := none, lanes := PerLane.tabulate fun _ => LaneRecord.idle none none, nextRollId := 1, history := [] }
  shade := { generator := 1023, seedLock := false, target := none, headCounter := none, tailCounter := none, nextStamp := 1, batches := [] }
  labels := { queue := [], claimHeld := false }
  speed := { slots := PerSlot.tabulate fun _ => none, runSpeed := 0, crawlSpeed := 100, gateOpen := true, active := none, granted := 0 }
  link := { address := 0x40, broadcast := false, state := .listening, gathered := [], discards := 0, lastReason := .none,
            masks := PerMaster.tabulate defaultMask, notices := PerMaster.tabulate fun _ => PerKind.tabulate fun _ => 0,
            response := none }
  pins := { resetLow := false, knives := PerLane.tabulate fun _ => false }
  model := { aLeadsForward := true, draws := 0, embossNoticed := false }
  pending := []

end Sys2Proof.Machine
end

