-- ==== Sys2Proof/Machine/Ops.lean ====
section
/-! DEFINITION. The shared operations: numbers of masters, lanes, stations, slots and kinds; saturation, rounding and integer
square root as the conventions give them; notices; the ring; the records of jobs. -/

namespace Sys2Proof.Machine

open Sys2Proof

/-! ### Numbers of the named things -/

/-- The lanes in ascending order. -/
def allLanes : List Lane := [.l0, .l1, .l2, .l3, .l4, .l5]

/-- The number of a lane. -/
def laneNumber : Lane → Nat
  | .l0 => 0 | .l1 => 1 | .l2 => 2 | .l3 => 3 | .l4 => 4 | .l5 => 5

/-- The lane with a number, none above 5. -/
def laneOf (n : Nat) : Option Lane := allLanes.find? fun l => laneNumber l == n

/-- The stations of the register unit in ascending order. -/
def allStations : List Station := [.s1, .s2, .s3, .s4, .s5, .s6, .s7]

/-- The number of a station. -/
def stationNumber : Station → Nat
  | .s1 => 1 | .s2 => 2 | .s3 => 3 | .s4 => 4 | .s5 => 5 | .s6 => 6 | .s7 => 7

/-- The masters in ascending order. -/
def allMasters : List Master := [.line, .drive, .quality, .rewind, .label, .plant]

/-- The number of a master. -/
def masterNumber : Master → Nat
  | .line => 1 | .drive => 2 | .quality => 3 | .rewind => 4 | .label => 5 | .plant => 6

/-- The master with a number from 1 to 6. -/
def masterOf (n : Nat) : Option Master := allMasters.find? fun m => masterNumber m == n

/-- The claim slots in their fixed order (R166). -/
def allSlots : List Slot := [.ref, .reg, .label, .m1, .m2, .m3, .m4, .m5, .m6]

/-- The place of a slot in the fixed order, from 1. -/
def slotPlace : Slot → Nat
  | .ref => 1 | .reg => 2 | .label => 3 | .m1 => 4 | .m2 => 5 | .m3 => 6 | .m4 => 7 | .m5 => 8 | .m6 => 9

/-- The slot of a master (Claim slots). -/
def masterSlot : Master → Slot
  | .line => .m1 | .drive => .m2 | .quality => .m3 | .rewind => .m4 | .label => .m5 | .plant => .m6

/-- The notice kinds in the order of their numbers. -/
def allKinds : List NoticeKind :=
  [.refLost, .refLocked, .stationLost, .jobSwitched, .jobClear, .spliceSeen, .spliceListFull, .rollClosed, .labelReady,
   .labelOverrun, .batchNew, .offshade, .claimChange, .embossChange]

/-- The number of a notice kind in the notice table. -/
def kindNumber : NoticeKind → Nat
  | .refLost => 0 | .refLocked => 1 | .stationLost => 2 | .jobSwitched => 3 | .jobClear => 4 | .spliceSeen => 5
  | .spliceListFull => 6 | .rollClosed => 7 | .labelReady => 8 | .labelOverrun => 9 | .batchNew => 10 | .offshade => 11
  | .claimChange => 12 | .embossChange => 13

/-! ### Arithmetic of the conventions -/

/-- `n`, held at `limit` when it is greater (conventions, Saturation). -/
def saturate (limit n : Nat) : Nat := min n limit

/-- `x` replaced by the nearer end when it lies outside `lo` to `hi` (conventions, Clamping). -/
def clamp (lo hi x : Int) : Int := if x < lo then lo else if hi < x then hi else x

/-- `n / d` rounded half away from zero (conventions, Rounding), for `d` above 0. -/
def roundDiv (n : Int) (d : Nat) : Int :=
  if 0 ≤ n then (2 * n + d) / (2 * d) else -((-(2 * n) + d) / (2 * d))

/-- `n / d` rounded up (R36), for `d` above 0. -/
def ceilDiv (n d : Nat) : Nat := (n + d - 1) / d

/-- The integer square root of `n` from its bits `k - 1` down, given the root `r` of the bits above. -/
def isqrtFrom (n : Nat) : Nat → Nat → Nat
  | 0, r => r
  | k + 1, r => if (r + 2 ^ k) * (r + 2 ^ k) ≤ n then isqrtFrom n k (r + 2 ^ k) else isqrtFrom n k r

/-- The integer square root rounded down (conventions, isqrt). -/
def isqrt (n : Nat) : Nat := isqrtFrom n (Nat.log2 n / 2 + 1) 0

/-- The square of an integer, as a natural number. -/
def square (x : Int) : Nat := x.natAbs * x.natAbs

/-- The shade whose components are `f` of the components of `a` and `b`. -/
def Shade.zipWith (f : Int → Int → Int) (a b : Shade) : Shade :=
  { lightness := f a.lightness b.lightness, redGreen := f a.redGreen b.redGreen, yellowBlue := f a.yellowBlue b.yellowBlue }

/-- The shade whose components are `f` of the components of `a`. -/
def Shade.map (f : Int → Int) (a : Shade) : Shade :=
  { lightness := f a.lightness, redGreen := f a.redGreen, yellowBlue := f a.yellowBlue }

/-- The sum of the squares of the components. -/
def Shade.sumSquares (a : Shade) : Nat := square a.lightness + square a.redGreen + square a.yellowBlue

/-- `xs` with `x` inserted before the first element whose key is greater (ascending by key). -/
def insertBy {α : Type} (key : α → Nat) (x : α) : List α → List α
  | [] => [x]
  | y :: ys => if key x < key y then x :: y :: ys else y :: insertBy key x ys

/-- `xs` sorted ascending by key, equal keys in their order in `xs`. -/
def sortBy {α : Type} (key : α → Nat) (xs : List α) : List α := xs.foldl (fun acc x => insertBy key x acc) []

/-! ### Free values -/

/-- `s` with one more free value drawn (notes/assumptions/3.md). -/
def advanceDraws (n : Nat) (s : State) : State := s.withModel { s.model with draws := s.model.draws + n }

/-! ### Notices (R183) -/

/-- The pending count after one more raising: joins with count 1, else rises, saturating at 255 (R183). -/
def raiseCount (held : Bool) (count : Nat) : Nat := if held then saturate 255 (count + 1) else count

/-- Raises a notice: it joins the pending set of each master whose mask holds its kind (R183). -/
def raiseNotice (k : NoticeKind) (s : State) : State :=
  s.withLink { s.link with
    notices := PerMaster.tabulate fun m =>
      let set := s.link.notices.get m
      set.set k (raiseCount ((s.link.masks.get m).get k) (set.get k)) }

/-- Raises EMBOSS_CHANGE, once for each event that moves the embosser's state (R93). -/
def noteEmbossMove (s : State) : State :=
  if s.model.embossNoticed then s
  else (raiseNotice .embossChange s).withModel { s.model with embossNoticed := true }

/-! ### The ring (R21 to R33) -/

/-- The slot of the ring that a serial occupies (R21). -/
def ringSlot (serial : Nat) : Nat := (serial - 1) % Config.ringMax

/-- The record of a serial, if it is in the ring. -/
def findRepeat (serial : Nat) (s : State) : Option Repeat := s.map.ring.find? fun r => r.serial == serial

/-- The newest serial in the ring, none when it is empty. -/
def newestSerial (s : State) : Option Nat := s.map.ring.getLast?.map (·.serial)

/-- The oldest record of the ring. -/
def oldestRepeat (s : State) : Option Repeat := s.map.ring.head?

/-- `s` with the record of a serial changed by `f`. -/
def updateRepeat (serial : Nat) (f : Repeat → Repeat) (s : State) : State :=
  s.withMap { s.map with ring := s.map.ring.map fun r => if r.serial == serial then f r else r }

/-- Whether position `p` lies in the span of a record: from its start up to, not including, its start plus its length (R23). -/
def inSpan (p : Nat) (r : Repeat) : Bool :=
  match r.length with
  | none => false
  | some len => r.start ≤ p && p < r.start + len

/-- The three classes of a serial (R33). -/
inductive SerialClass where
  | inRing (r : Repeat) | retired | notCreated
  deriving DecidableEq, Repr

/-- The class of a serial, as the ring and the retired mark stand (R33). -/
def classify (serial : Nat) (s : State) : SerialClass :=
  match findRepeat serial s with
  | some r => .inRing r
  | none => if 1 ≤ serial && serial ≤ s.map.retired then .retired else .notCreated

/-! ### Jobs -/

/-- n_roll of a repeat length and a target length in millimetres (Jobs, after the job record table). -/
def standardRepeats (targetMm length : Nat) : Nat := ceilDiv (targetMm * 20) length

/-- n_roll of a job. -/
def JobRecord.standardRepeats (j : JobRecord) : Nat := Machine.standardRepeats j.targetMm j.length

/-- The armed record, when the staged record is armed. -/
def armedJob (s : State) : Option JobRecord :=
  match s.jobs.staged with
  | some j => if j.armed then some j.record else none
  | none => none

/-- The creating job: the armed job when a job is armed, otherwise the head job (R4). -/
def creatingJob (s : State) : Option JobRecord :=
  match armedJob s with
  | some j => some j
  | none => s.jobs.head.map (·.record)

/-- The record that a job tag names: the head job or the tail job (R45, R48). -/
def jobOf (tag : Nat) (s : State) : Option JobRecord :=
  match s.jobs.head with
  | some h => if h.record.number == tag then some h.record else s.jobs.tail.bind fun t => if t.record.number == tag then some t.record else none
  | none => s.jobs.tail.bind fun t => if t.record.number == tag then some t.record else none

/-- The entry of a station in a job's station list. -/
def JobRecord.entry (j : JobRecord) (st : Station) : Option StationEntry :=
  j.stations.find? fun e => e.station == stationNumber st

/-- A job record with the expected offset of a station replaced (R79). -/
def JobRecord.withOffset (j : JobRecord) (st : Station) (offset : Nat) : JobRecord :=
  { j with stations := j.stations.map fun e => if e.station == stationNumber st then { e with offset := offset } else e }

/-- The number of lanes of a lane set, as a list in ascending order. -/
def lanesOf (mask : PerLane Bool) : List Lane := allLanes.filter fun l => mask.get l

end Sys2Proof.Machine
end

