-- ==== Sys2Proof/Machine/Speed.lean ====
section
/-! DEFINITION. Speed Authority: claim slots, eligibility, arbitration, the granted speed and CLAIM_CHANGE. -/

namespace Sys2Proof.Machine

open Sys2Proof

/-- Whether a slot is eligible (R161): filled, and with the gate CLOSED not a slot of masters 2 to 6. -/
def eligible (u : SpeedUnit) (k : Slot) : Bool :=
  (u.slots.get k).isSome &&
    (u.gateOpen || match k with
      | .ref | .reg | .label | .m1 => true
      | .m2 | .m3 | .m4 | .m5 | .m6 => false)

/-- The level of a slot's claim; 0, below every level, for a slot in NONE. -/
def slotLevel (u : SpeedUnit) (k : Slot) : Nat := ((u.slots.get k).map (·.level)).getD 0

/-- The state of a slot (R160). -/
def slotState (u : SpeedUnit) (k : Slot) : SlotState :=
  if (u.slots.get k).isNone then .none else if u.active = some k then .active else .held

/-- Whether no eligible claim has a level strictly greater than `level`. -/
def nothingAbove (u : SpeedUnit) (level : Nat) : Bool := allSlots.all fun k => !eligible u k || slotLevel u k ≤ level

/-- The eligible slot of greatest level, the first in the fixed order among equals (R166 step 2). -/
def chooseAfresh (u : SpeedUnit) : Option Slot := allSlots.find? fun k => eligible u k && nothingAbove u (slotLevel u k)

/-- Whether the ACTIVE claim keeps its place (R166 step 1); `lowered` says that the event lowered its level. -/
def activeKeeps (u : SpeedUnit) (lowered : Bool) : Bool :=
  match u.active with
  | none => false
  | some k => eligible u k && !lowered && nothingAbove u (slotLevel u k)

/-- The granted speed: the lower of the run speed and the ACTIVE claim's speed (R168). -/
def grantedSpeed (u : SpeedUnit) : Nat :=
  match u.active.bind fun k => u.slots.get k with
  | none => u.runSpeed
  | some c => min u.runSpeed c.speed

/-- The granted speed recomputed (R168). -/
def recomputeGranted (u : SpeedUnit) : SpeedUnit := { u with granted := grantedSpeed u }

/-- One arbitration run, after the event's change has been made (R166), with the granted speed recomputed at its end. -/
def arbitrate (lowered : Bool) (u : SpeedUnit) : SpeedUnit :=
  recomputeGranted (if activeKeeps u lowered then u else { u with active := chooseAfresh u })

/-- A change of one slot: filled, replaced or emptied, then arbitration (R160, R166). -/
def changeSlot (k : Slot) (c : Option ClaimValue) (u : SpeedUnit) : SpeedUnit :=
  arbitrate (u.active = some k && ((c.map (·.level)).getD 0 < slotLevel u k)) { u with slots := u.slots.set k c }

/-- A change of one slot of the speed authority. -/
def setSlot (k : Slot) (c : Option ClaimValue) (s : State) : State := s.withSpeed (changeSlot k c s.speed)

/-- Level of the REF claim (R165). -/
def refLevel : Nat := 6

/-- Level of the REG claim (R165). -/
def regLevel : Nat := 5

/-- Level of the LABEL claim (R165). -/
def labelLevel : Nat := 3

/-- Releases the three internal claims as one change, with one arbitration (R173). -/
def releaseInternal (u : SpeedUnit) : SpeedUnit :=
  arbitrate false { u with slots := ((u.slots.set .ref none).set .reg none).set .label none }

/-! ### Events -/

/-- Takes one event whole: runs it, raises CLAIM_CHANGE once when the granted speed at its end differs from the speed before
it (R169), and closes the event for EMBOSS_CHANGE (R93, notes/assumptions/6.md). -/
def asEvent (f : State → State) (s : State) : State :=
  let s1 := f (s.withModel { s.model with embossNoticed := false })
  let s2 := if s1.speed.granted = s.speed.granted then s1 else raiseNotice .claimChange s1
  s2.withModel { s2.model with embossNoticed := false }

/-! ### Requests -/

/-- A speed sent on the link, clamped to 4000 (R162, R170). -/
def clampSpeed (v : BitVec 16) : Nat := min v.toNat Config.speedMax

/-- Whether a Claim's level is refused (R162). -/
def badLevel (level : BitVec 8) : Bool := level.toNat = 0 || 7 < level.toNat

/-- An accepted Claim: the sender's slot takes the level and the clamped speed, and arbitration runs (R162). -/
def takeClaim (m : Master) (level : BitVec 8) (speed : BitVec 16) (s : State) : State :=
  if badLevel level then s else setSlot (masterSlot m) (some { level := level.toNat, speed := clampSpeed speed }) s

/-- Release: the sender's slot is emptied and arbitration runs (R163). -/
def takeRelease (m : Master) (s : State) : State := setSlot (masterSlot m) none s

/-- Set Run Speed: both speeds, the LABEL slot's speed when it is filled, and the granted speed (R170, R151). -/
def takeRunSpeed (run crawl : Nat) (s : State) : State :=
  let u := { s.speed with runSpeed := run, crawlSpeed := crawl }
  s.withSpeed <| recomputeGranted <|
    match u.slots.get .label with
    | none => u
    | some c => changeSlot .label (some { c with speed := crawl }) u

/-- Set Claim Gate: a setting that changes the gate runs arbitration (R171). -/
def takeGate (isOpen : Bool) (s : State) : State :=
  if s.speed.gateOpen = isOpen then s else s.withSpeed (arbitrate false { s.speed with gateOpen := isOpen })

end Sys2Proof.Machine
end

