-- ==== Sys2Proof/Machine/Register.lean ====
section
/-! DEFINITION. Register Control: the records of stations 1 to 7, window placing, skips, marks, misses, the trim arithmetic,
job switching at a station, the REG claim and Teach Offsets. -/

namespace Sys2Proof.Machine

open Sys2Proof

/-- `s` with the record of a station replaced. -/
def setStation (st : Station) (r : StationRecord) (s : State) : State := s.withRegister (s.register.set st r)

/-- The record of the job a station is in (R48). -/
def stationJob (st : Station) (s : State) : Option JobRecord := (s.register.get st).job.bind fun tag => jobOf tag s

/-- Writes a station's result into a repeat record (R25). -/
def writeResult (st : Station) (serial : Nat) (res : StationResult) (s : State) : State :=
  updateRepeat serial (fun r => { r with results := r.results.set st res }) s

/-! ### The REG claim (R74, R75) -/

/-- The recovery speeds of the jobs of the LOST stations. -/
def lostSpeeds (s : State) : List Nat :=
  allStations.filterMap fun st =>
    if (s.register.get st).state = .lost then (stationJob st s).map (·.recoverySpeed) else none

/-- Sets the REG claim again: the lowest recovery speed of the LOST stations' jobs at level 5, or released when no station is
LOST (R75). -/
def updateRegClaim (s : State) : State :=
  match lostSpeeds s with
  | [] => setSlot .reg none s
  | v :: vs => setSlot .reg (some { level := regLevel, speed := vs.foldl min v }) s

/-- A station enters LOST: STATION_LOST, and the REG claim raised or set again (R74). -/
def enterLost (st : Station) (s : State) : State :=
  updateRegClaim (raiseNotice .stationLost (setStation st { s.register.get st with state := .lost } s))

/-- A station goes OFF: every field at its value in the station record table; a LOST station leaves LOST (R62, R75). -/
def stationOff (st : Station) (s : State) : State :=
  let s1 := setStation st StationRecord.off s
  if (s.register.get st).state = .lost then updateRegClaim s1 else s1

/-! ### The trim arithmetic (R61, R70, R71) -/

/-- The guard limit of the accumulator, (C_max + 64) x 256 (R71 step 3). -/
def guardLimit (trimLimit : Nat) : Int := ((trimLimit + 64) * 256 : Nat)

/-- Clamps an accumulator to the guard limit and publishes the trim from it: steps 3 to 6 of R71, steps 1 to 4 of R61. -/
def publishTrim (trimLimit : Nat) (acc : Int) (r : StationRecord) : StationRecord :=
  let a := clamp (-(guardLimit trimLimit)) (guardLimit trimLimit) acc
  let raw := roundDiv a 256
  let t := clamp (-(trimLimit : Int)) trimLimit raw
  { r with
    accumulator := a
    trim := t
    saturated := t != raw
    trimSeq := if t = r.trim then r.trimSeq else (r.trimSeq + 1) % 65536 }

/-- The trim update of a match with error `err` (R71). -/
def trimUpdate (e : StationEntry) (err : Int) (r : StationRecord) : StationRecord :=
  if err.natAbs ≤ e.deadband then r else publishTrim e.trimLimit (r.accumulator - e.gain * err) r

/-! ### Windows and the skip test (R63, R64) -/

/-- The half-width of a station's window (States, R63). -/
def stationHalfWidth (j : JobRecord) (state : StationState) : Nat :=
  match state with
  | .lost => j.length / 2 - 1
  | .off | .armed | .tracking | .holding => j.halfWindow

/-- Whether a record at a station's cursor is skipped (R64). -/
def skipTest (st : Station) (r : Repeat) : Bool :=
  r.excluded || r.origin == .synth || (st == .s7 && r.emboss != .pending && r.emboss != .embossed)

/-- Places the window for a record at rest (R63). -/
def placeWindow (st : Station) (rec : Repeat) (s : State) : State :=
  match stationJob st s with
  | none => s
  | some j =>
    match j.entry st with
    | none => s
    | some e =>
      let r := s.register.get st
      setStation st { r with window := some { centre := rec.start + e.offset, halfWidth := stationHalfWidth j r.state } } s

/-- Moves a station's cursor forward over the record it names; its window registration is dropped (R29, R63). After the serial
2^32 - 1 the cursor holds 2^32, which no serial is (DESIGN CHOICE, notes/assumptions/3.md). -/
def advanceCursor (st : Station) (s : State) : State :=
  let r := s.register.get st
  setStation st { r with cursor := r.cursor.map (· + 1), window := none } s

/-- Writes SKIPPED for the record at a station's cursor and clears the deferred miss (R64). -/
def skipRecord (st : Station) (serial : Nat) (s : State) : State :=
  let s1 := writeResult st serial .skipped s
  advanceCursor st (setStation st { s1.register.get st with deferredMiss := false } s1)

/-- The station's switch at a change-point record of another job: it carries over into the new job when that job lists it
(R61), and goes OFF otherwise (R62). -/
def switchStation (st : Station) (rec : Repeat) (s : State) : State :=
  match (jobOf rec.job s).bind fun j => (j.entry st).map fun e => (j, e) with
  | none => stationOff st s
  | some (j, e) =>
    let r0 := s.register.get st
    let r := publishTrim e.trimLimit r0.accumulator { r0 with job := some rec.job, teachReady := false }
    let s1 := setStation st r s
    match r.state with
    | .armed | .holding => if j.missLimit ≤ r.missRun then enterLost st s1 else s1
    | .lost => updateRegClaim s1
    | .off | .tracking => s1

/-! ### Misses (R65, R69) -/

/-- The record of the cursor of a station, when the cursor rests on one. -/
def cursorRepeat (st : Station) (s : State) : Option Repeat :=
  (s.register.get st).cursor.bind fun c => findRepeat c s

/-- The state after a miss, before an entry into LOST, with the miss run after it (R69). -/
def stateAfterMiss (state : StationState) : StationState :=
  match state with
  | .tracking => .holding
  | .off => .off
  | .armed => .armed
  | .holding => .holding
  | .lost => .lost

/-- Whether a miss that brings the miss run to `run` enters LOST (R69, R74). -/
def missEntersLost (state : StationState) (run limit : Nat) : Bool :=
  match state with
  | .armed | .holding => limit ≤ run
  | .off | .tracking | .lost => false

/-- The record at a station's cursor is written MISSED, and the cursor moves on over it (R69); its next rest is still to come. -/
def missRecord (st : Station) (rec : Repeat) (s : State) : State :=
  let r := s.register.get st
  let run := saturate 255 (r.missRun + 1)
  let s1 := writeResult st rec.serial .missed s
  let s2 := setStation st
    { r with missRun := run, missCount := saturate Config.max16 (r.missCount + 1), state := stateAfterMiss r.state } s1
  let limit := ((stationJob st s).map (·.missLimit)).getD 0
  let s3 := if missEntersLost r.state run limit then enterLost st s2 else s2
  advanceCursor st s3

/-- Whether station 7 holds its decision on a record: its emboss status is still PENDING (R65). -/
def defersMiss (st : Station) (rec : Repeat) : Bool := st == .s7 && rec.emboss == .pending

/-- Sets a station's deferred miss (R65). -/
def deferMiss (st : Station) (s : State) : State := setStation st { s.register.get st with deferredMiss := true } s

/-- Whether the high-water position stands at or above the end of a station's window (R63). -/
def windowPassed (st : Station) (s : State) : Bool :=
  match (s.register.get st).window with
  | none => false
  | some w => w.centre + w.halfWidth ≤ s.pos.highWater

/-! ### Coming to rest (R29, R61 to R64) -/

/-- Brings a station's cursor to rest (R29, R63): switches jobs at another job's record, moves over decided records, skips, and
at a record that stays PENDING places the window unless it is placed already. A window end that the high-water position has
reached already counts as crossed at its registration, and the miss, or station 7's deferral, is taken at once (R2, R63, R69). -/
def settleStation (st : Station) : Nat → State → State
  | 0, s => s
  | fuel + 1, s =>
    match cursorRepeat st s with
    | none => s
    | some rec =>
      if (s.register.get st).job ≠ some rec.job then settleStation st fuel (switchStation st rec s)
      else if rec.results.get st ≠ .pending then settleStation st fuel (advanceCursor st s)
      else if skipTest st rec then settleStation st fuel (skipRecord st rec.serial s)
      else if (s.register.get st).window.isSome then s
      else if windowPassed st (placeWindow st rec s) then
        if defersMiss st rec then deferMiss st (placeWindow st rec s)
        else settleStation st fuel (missRecord st rec (placeWindow st rec s))
      else placeWindow st rec s

/-- Enough steps for a cursor to pass every record of the ring, each with a switch of job (notes/assumptions/13.md). -/
def settleFuel (s : State) : Nat := 2 * s.map.ring.length + 2

/-- Brings one station to rest. -/
def restStation (st : Station) (s : State) : State := settleStation st (settleFuel s) s

/-- Makes the skip test again for every station at rest, after a splice has set excluded flags (R64); in ascending station order,
which no rule gives (DESIGN CHOICE, notes/assumptions/23.md). -/
def recheckStations (s : State) : State := allStations.foldl (fun acc st => restStation st acc) s

/-! ### Window ends, marks and matches (R65 to R68) -/

/-- The record at a station's cursor is missed, and the cursor comes to rest again (R69). -/
def stationMiss (st : Station) (rec : Repeat) (s : State) : State := restStation st (missRecord st rec s)

/-- The high-water position crosses a station's window end (R69); station 7 defers while the emboss status is PENDING (R65). A
window without a record at the cursor, which no path gives, is dropped. -/
def stationWindowEnd (st : Station) (s : State) : State :=
  match cursorRepeat st s with
  | none => setStation st { s.register.get st with window := none } s
  | some rec =>
    if defersMiss st rec then deferMiss st s else stationMiss st rec s

/-- Station 7 is handed the emboss status just written for the record at its cursor: it skips, misses, or keeps the window
open (R65, R90). -/
def station7Status (serial : Nat) (s : State) : State :=
  let r := s.register.get .s7
  match cursorRepeat .s7 s with
  | none => s
  | some rec =>
    if rec.serial ≠ serial then s
    else
      let s1 := setStation .s7 { r with deferredMiss := false } s
      if rec.emboss = .embossed ∧ !skipTest .s7 rec then (if r.deferredMiss then stationMiss .s7 rec s1 else s1)
      else restStation .s7 s1

/-- The trim update at a match, made only at or above the register minimum speed (R70). -/
def trimAtMatch (st : Station) (err : Int) (s : State) (r : StationRecord) : StationRecord :=
  match (stationJob st s).bind fun j => (j.entry st).map fun e => (j, e) with
  | none => r
  | some (j, e) => if s.pos.speed < j.registerMinSpeed then r else trimUpdate e err r

/-- A mark inside the window of the cursor record is a match with error t - E (R68). -/
def stationMatch (st : Station) (rec : Repeat) (w : Window) (s : State) : State :=
  let r := s.register.get st
  let err : Int := s.pos.linePos - w.centre
  let s1 := writeResult st rec.serial (.matched err) s
  let r1 := { r with
    state := .tracking, lastError := err, matchCount := saturate Config.max16 (r.matchCount + 1), teachReady := true,
    missRun := 0, deferredMiss := false }
  let s2 := setStation st r1 s1
  let s3 := if r.state = .lost then updateRegClaim s2 else s2
  let s4 := setStation st (trimAtMatch st err s3 r1) s3
  restStation st (advanceCursor st s4)

/-- A stray at a station (R66). -/
def stationStray (st : Station) (s : State) : State :=
  let r := s.register.get st
  setStation st { r with strayCount := saturate Config.max16 (r.strayCount + 1) } s

/-- Whether position `t` lies in a window, ends included (R63). -/
def inWindow (t : Nat) (w : Window) : Bool := w.centre ≤ t + w.halfWidth && t ≤ w.centre + w.halfWidth

/-- A leading edge on Ms at the line position (R66). -/
def takeStationMark (st : Station) (s : State) : State :=
  let r := s.register.get st
  if r.state = .off then s
  else
    match cursorRepeat st s, r.window with
    | some rec, some w =>
      if defersMiss st rec then stationStray st s
      else if inWindow s.pos.linePos w then stationMatch st rec w s
      else stationStray st s
    | _, _ => stationStray st s

/-! ### Job switching (R60, R62) -/

/-- The station's job start at a change point: its job and cursor, ARMED, everything else as in the station record table
(R60). -/
def startStation (st : Station) (rec : Repeat) (s : State) : State :=
  setStation st { StationRecord.off with state := .armed, job := some rec.job, cursor := some rec.serial } s

/-- What the creation of a record does at one station: an OFF station that the change point's job lists takes up the job
(R60); a cursor that waited at the record comes to rest on it (R28, R61, R62). -/
def stationAtCreation (rec : Repeat) (s : State) (st : Station) : State :=
  if (s.register.get st).state = .off then
    if rec.changePoint && ((jobOf rec.job s).bind fun j => j.entry st).isSome then restStation st (startStation st rec s) else s
  else if (s.register.get st).cursor = some rec.serial then restStation st s
  else s

/-- What the creation of a record does at stations 1 to 7, in ascending station order: no rule orders the stations that switch,
start or go OFF within one event, and with a master claim at REG's level the order can decide the ACTIVE slot (DESIGN CHOICE,
notes/assumptions/23.md). -/
def stationsAtCreation (rec : Repeat) (s : State) : State := allStations.foldl (stationAtCreation rec) s

/-- At JOB_CLEAR of a job, each station still in it goes OFF (R62), in ascending station order (notes/assumptions/23.md). -/
def stationsAtJobClear (tag : Nat) (s : State) : State :=
  allStations.foldl (fun acc st => if (acc.register.get st).job = some tag then stationOff st acc else acc) s

/-! ### Teach Offsets (R79) -/

/-- The outcome of Teach Offsets at one station (R79). -/
inductive TeachOutcome where
  | notInJob | notReady | outOfRange | taught
  deriving DecidableEq, Repr

/-- The station's expected offset in its own job's record. -/
def stationOffset (st : Station) (s : State) : Option Nat := (stationJob st s).bind fun j => (j.entry st).map (·.offset)

/-- Whether a taught offset is kept from 0 to D_cut - W - 1 (R79). -/
def teachInRange (dCut halfWindow : Nat) (v : Int) : Bool := 0 ≤ v && v < (dCut : Int) - halfWindow

/-- The outcome of Teach Offsets at a station, as the state stands (R79). -/
def teachOutcome (st : Station) (s : State) : TeachOutcome :=
  let r := s.register.get st
  match r.state with
  | .off => .notInJob
  | .armed | .lost => .notReady
  | .tracking | .holding =>
    if !r.teachReady then .notReady
    else
      match stationJob st s, stationOffset st s with
      | some j, some a => if teachInRange s.jobs.geometry.dCut j.halfWindow (a + r.lastError) then .taught else .outOfRange
      | _, _ => .notReady

/-- Writes a station's expected offset into the record of the job that a tag names, the head or the tail record (R48). -/
def writeOffset (tag : Nat) (st : Station) (offset : Nat) (u : JobUnit) : JobUnit :=
  match u.head with
  | some h =>
    if h.record.number = tag then { u with head := some { h with record := h.record.withOffset st offset } }
    else { u with tail := u.tail.map fun t => if t.record.number = tag then { t with record := t.record.withOffset st offset } else t }
  | none => { u with tail := u.tail.map fun t => if t.record.number = tag then { t with record := t.record.withOffset st offset } else t }

/-- Teach Offsets at one station: a TAUGHT station's offset moves by its last error, and teach-ready is cleared (R79). -/
def teachStation (s : State) (st : Station) : State :=
  match teachOutcome st s, (s.register.get st).job, stationOffset st s with
  | .taught, some tag, some a =>
    let r := s.register.get st
    setStation st { r with teachReady := false } (s.withJobs (writeOffset tag st (a + r.lastError).toNat s.jobs))
  | _, _, _ => s

/-- Teach Offsets at stations 1 to 7 (R79). -/
def teachAll (s : State) : State := allStations.foldl teachStation s

end Sys2Proof.Machine
end

