-- ==== Sys2Proof/Machine/Emboss.lean ====
section
/-! DEFINITION. Embossing: lift causes, the moves of the embosser, splice lifts, the nip crossing and the switch of the nip
job. -/

namespace Sys2Proof.Machine

open Sys2Proof

/-- The embosser takes a state and a settle count; a move of the state raises EMBOSS_CHANGE (R93). -/
def moveEmboss (state : EmbossState) (count : Nat) (s : State) : State :=
  let s1 := s.withEmboss { s.emboss with state := state, settleCount := count }
  if s.emboss.state = state then s1 else noteEmbossMove s1

/-- The low-speed cause: the nip job has an emboss part and the measured speed is below its minimum (R87). -/
def lowSpeedCause (s : State) : Bool :=
  match s.emboss.part with
  | none => false
  | some p => s.pos.speed < p.minSpeed

/-- The splice lift cause: an entry of the splice lift list is IN_FORCE (Lift causes). -/
def spliceCause (s : State) : Bool := s.emboss.lifts.any fun l => l.state == .inForce

/-- Whether any lift cause is in force (R84). -/
def anyCause (s : State) : Bool := s.emboss.hold || lowSpeedCause s || spliceCause s

/-- The settle count S of the emboss part. -/
def partSettle (s : State) : Nat := (s.emboss.part.map (·.settle)).getD 0

/-- Settling begins with count S; with S of 0 the embosser is ENGAGED at once (R84). -/
def beginSettling (s : State) : State :=
  if partSettle s = 0 then moveEmboss .engaged 0 s else moveEmboss .settling (partSettle s) s

/-- The move that a change of the lift causes makes (R84). -/
def retestCauses (s : State) : State :=
  match s.emboss.state with
  | .none => s
  | .lifted => if anyCause s then s else beginSettling s
  | .settling | .engaged => if anyCause s then moveEmboss .lifted 0 s else s

/-- Sets or clears the hold flag (R86). -/
def setHold (v : Bool) (s : State) : State := retestCauses (s.withEmboss { s.emboss with hold := v })

/-! ### Splice lifts (R88, R89) -/

/-- The splice lift of a splice repeat of an embossing job. -/
def liftFor (rec : Repeat) (len : Nat) (lead eNip : Nat) : SpliceLift :=
  { serial := rec.serial, startPos := (rec.start : Int) + eNip - lead, endPos := rec.start + eNip + len, state := .pending }

/-- An entry whose start has just been registered: a start that the high-water position has reached already counts as crossed
there, and the entry is IN_FORCE at once (R2, R88). -/
def registerStart (highWater : Nat) (l : SpliceLift) : SpliceLift :=
  if l.startPos ≤ highWater then { l with state := .inForce } else l

/-- The newest entry with a further lift merged into it; a start that changes while the entry is PENDING is registered again
(R88). -/
def mergeLift (highWater : Nat) (old new : SpliceLift) : SpliceLift :=
  let l := { old with startPos := min old.startPos new.startPos, endPos := max old.endPos new.endPos }
  if new.startPos < old.startPos then registerStart highWater l else l

/-- The splice lift list with a lift entered in serial order, or merged into the newest entry when the list is full (R88). -/
def enterLift (highWater : Nat) (l : SpliceLift) (lifts : List SpliceLift) : List SpliceLift :=
  if lifts.length < Config.liftListMax then insertBy (·.serial) (registerStart highWater l) lifts
  else lifts.dropLast ++ (lifts.getLast?.map fun old => mergeLift highWater old l).toList

/-- Places the splice lift of a flagged splice repeat, when its job embosses and its end is still ahead; a lift that is
IN_FORCE at once moves the state at once (R84, R88, R89). -/
def placeLift (rec : Repeat) (s : State) : State :=
  match (jobOf rec.job s).bind (·.emboss), rec.length with
  | some e, some len =>
    let l := liftFor rec len e.lead s.jobs.geometry.eNip
    if l.endPos ≤ s.pos.highWater then s
    else retestCauses (s.withEmboss { s.emboss with lifts := enterLift s.pos.highWater l s.emboss.lifts })
  | _, _ => s

/-- The high-water position crosses an entry's start: it becomes IN_FORCE (R89). -/
def liftStart (serial : Nat) (s : State) : State :=
  retestCauses (s.withEmboss { s.emboss with
    lifts := s.emboss.lifts.map fun l => if l.serial = serial then { l with state := .inForce } else l })

/-- Whether an entry's end is a crossing of its own: no record follows its splice repeat because End Job fixed that repeat's
length (R89). -/
def endsAlone (s : State) (l : SpliceLift) : Bool :=
  match s.jobs.tail.bind (·.finalBoundary) with
  | none => false
  | some b => l.endPos == b + s.jobs.geometry.eNip

/-- Removes the IN_FORCE entries that `p` selects; when there were any, the causes are found again (R89). -/
def removeLifts (p : SpliceLift → Bool) (s : State) : State :=
  if s.emboss.lifts.any fun l => l.state == .inForce && p l then
    retestCauses (s.withEmboss { s.emboss with lifts := s.emboss.lifts.filter fun l => !(l.state == .inForce && p l) })
  else s

/-- The high-water position crosses the end of an entry whose end is a crossing of its own (R89). -/
def liftEnd (serial : Nat) (s : State) : State := removeLifts (fun l => l.serial == serial) s

/-! ### The switch of the nip job (R91) -/

/-- The emboss part that a job gives the nip (R91). -/
def nipPartOf (j : JobRecord) : Option NipPart := j.emboss.map fun e => { settle := e.settle, minSpeed := e.minSpeed }

/-- In SETTLING, the settle count is lowered to the new S, and ENGAGED follows when that makes it 0 (R91). -/
def lowerSettle (s : State) : State :=
  if s.emboss.state = .settling ∧ partSettle s < s.emboss.settleCount then
    moveEmboss (if partSettle s = 0 then .engaged else .settling) (partSettle s) s
  else s

/-- The nip cursor reaches a change point: the nip job becomes its job (R91). -/
def switchNipJob (rec : Repeat) (s : State) : State :=
  let new := (jobOf rec.job s).bind nipPartOf
  let s1 := s.withEmboss { s.emboss with nipJob := some rec.job, part := new }
  match s.emboss.part, new with
  | _, none => moveEmboss .none 0 s1
  | none, some _ => if anyCause s1 then moveEmboss .lifted 0 s1 else beginSettling s1
  | some _, some _ => lowerSettle (retestCauses s1)

/-! ### The nip (R90) -/

/-- The emboss status written at the nip (R90). -/
def nipStatus (embosses : Bool) (state : EmbossState) : EmbossStatus :=
  if embosses then (if state = .engaged then .embossed else .plain) else .none

/-- In SETTLING a crossing lowers the settle count, and ENGAGED follows at 0 (R85). -/
def settleStep (s : State) : State :=
  if s.emboss.state = .settling then
    let n := s.emboss.settleCount - 1
    moveEmboss (if n = 0 then .engaged else .settling) n s
  else s

/-- Writes the emboss status of a record, and lowers the settle count when it is written from SETTLING (R90, R85). -/
def writeEmboss (rec : Repeat) (s : State) : State :=
  let embosses := ((jobOf rec.job s).bind (·.emboss)).isSome
  let s1 := updateRepeat rec.serial (fun r => { r with emboss := nipStatus embosses s.emboss.state }) s
  if embosses then settleStep s1 else s1

/-- What a nip crossing does for the record at the nip cursor: splice lifts that end here end first, the emboss status is written,
the nip cursor moves on, and station 7 is handed the status (R89, R90). After the serial 2^32 - 1 the cursor holds 2^32, which
no serial is (DESIGN CHOICE, notes/assumptions/3.md). -/
def passNip (rec : Repeat) (s : State) : State :=
  let here := rec.start + s.jobs.geometry.eNip
  let s1 := removeLifts (fun l => l.endPos == here && !endsAlone s l) s
  let s2 := writeEmboss rec s1
  station7Status rec.serial
    ((s2.withMap { s2.map with nipCursor := s2.map.nipCursor + 1 }).withEmboss { s2.emboss with nipReg := none })

/-- The nip cursor reaches a record: the nip job is switched at a change point (R91). -/
def arriveAtNip (rec : Repeat) (s : State) : State := if rec.changePoint then switchNipJob rec s else s

/-- Brings the nip cursor to rest: the switch at a change point, then the registration of the record's nip crossing; no
registration while the cursor waits (R90, R91). A nip crossing that the high-water position has reached already counts as
crossed at its registration and is taken at once (R2, R90). -/
def settleNip : Nat → State → State
  | 0, s => s.withEmboss { s.emboss with nipReg := none }
  | fuel + 1, s =>
    match findRepeat s.map.nipCursor s with
    | none => s.withEmboss { s.emboss with nipReg := none }
    | some rec =>
      let s1 := arriveAtNip rec s
      let here := rec.start + s1.jobs.geometry.eNip
      if here ≤ s1.pos.highWater then settleNip fuel (passNip rec s1) else s1.withEmboss { s1.emboss with nipReg := some here }

/-- The nip cursor comes to rest; every record of the ring is passed at most once. -/
def restNip (s : State) : State := settleNip (s.map.ring.length + 1) s

/-- The high-water position crosses the registered nip crossing (R90). -/
def nipCrossing (s : State) : State :=
  match findRepeat s.map.nipCursor s with
  | none => s.withEmboss { s.emboss with nipReg := none }
  | some rec => restNip (passNip rec s)

end Sys2Proof.Machine
end

