-- ==== Sys2Proof/Machine/Labels.lean ====
section
/-! DEFINITION. Labels: label records, the label queue, the LABEL claim and label states. -/

namespace Sys2Proof.Machine

open Sys2Proof

/-- The label record of a history entry (R147), with the means and the spread (R131, R135). -/
def labelOf (e : HistoryEntry) (issue : Issue) : LabelRecord :=
  { rollId := e.rollId, job := e.job, pattern := e.pattern, lane := e.lane, kind := e.kind, reason := e.reason,
    grade := e.grade, batch := e.batch, repeats := e.repeats, lengthMm := e.lengthMm, means := e.means, spread := e.spread,
    defects := e.defects, plain := e.plain, issue := issue }

/-- The history entry of a roll id. A roll is known by its id alone, also after the ids have come round (DESIGN CHOICE,
notes/assumptions/25.md). -/
def findEntry (rollId : Nat) (s : State) : Option HistoryEntry := s.rolls.history.find? fun e => e.rollId == rollId

/-- Writes a roll's label state into its history entry, when it is in the history (R109). An older label of an id that has come
round acts on the newer roll of that id (DESIGN CHOICE, notes/assumptions/25.md). -/
def setLabelState (rollId : Nat) (st : LabelState) (s : State) : State :=
  s.withRolls { s.rolls with history := s.rolls.history.map fun e => if e.rollId = rollId then { e with labelState := st } else e }

/-! ### The LABEL claim (R150, R151) -/

/-- After a close: the claim is raised at a depth of 14 or more when it is not held (R150). -/
def claimAfterClose (s : State) : State :=
  if Config.labelClaimAt ≤ s.labels.queue.length ∧ s.labels.claimHeld = false then
    setSlot .label (some { level := labelLevel, speed := s.speed.crawlSpeed }) (s.withLabels { s.labels with claimHeld := true })
  else s

/-- After a removal: a held claim is released at a depth of 10 or less (R150). -/
def claimAfterRemoval (s : State) : State :=
  if s.labels.queue.length ≤ Config.labelReleaseAt ∧ s.labels.claimHeld = true then
    setSlot .label none (s.withLabels { s.labels with claimHeld := false })
  else s

/-! ### The queue (R148, R152, R154, R156) -/

/-- Queues the label record of a roll that has just closed, or records it MISSED; answers the label state written
(R148). -/
def queueLabel (r : LabelRecord) (s : State) : LabelState × State :=
  if s.labels.queue.length < Config.labelMax then
    let s1 := s.withLabels { s.labels with queue := s.labels.queue ++ [r] }
    (.queued, if s.labels.queue = [] then raiseNotice .labelReady s1 else s1)
  else (.missed, raiseNotice .labelOverrun s)

/-- Removes a roll's record from the queue, wherever it stands; the records behind it keep their order, and the removal counts
for the LABEL claim (R150, R154, R156). Every record of that id leaves, also an older one whose id has come round (DESIGN CHOICE,
notes/assumptions/25.md). -/
def removeLabel (rollId : Nat) (s : State) : State :=
  claimAfterRemoval (s.withLabels { s.labels with queue := s.labels.queue.filter fun r => r.rollId != rollId })

/-- Take Label on a queue with oldest record `r`: it leaves the queue, and its roll becomes ISSUED (R152). -/
def takeOldestLabel (r : LabelRecord) (rest : List LabelRecord) (s : State) : State :=
  setLabelState r.rollId .issued (claimAfterRemoval (s.withLabels { s.labels with queue := rest }))

/-- Relabel of a roll in the history: its record leaves the queue when it was QUEUED, and it becomes ISSUED (R154). -/
def reissueLabel (e : HistoryEntry) (s : State) : State :=
  setLabelState e.rollId .issued (if e.labelState = .queued then removeLabel e.rollId s else s)

end Sys2Proof.Machine
end

