-- ==== Sys2Proof/Machine/Shade.lean ====
section
/-! DEFINITION. Shade Samples and Batches: the sampling generator, designation, samples and defect marks, grading and the
batch table. -/

namespace Sys2Proof.Machine

open Sys2Proof

/-! ### The generator and designation (R120 to R122) -/

/-- One step of the sampling generator (R120). -/
def stepGenerator (g : BitVec 10) : BitVec 10 :=
  (g <<< 1) ||| (if g.getLsbD 9 != g.getLsbD 6 then 1 else 0)

/-- Whether the repeat of a serial starts a sample interval of the job whose first serial is `first` (R121). A serial below
`first`, which only the free counter past 2^32 - 1 gives, starts one (DESIGN CHOICE, notes/assumptions/3.md). -/
def startsInterval (serial first interval : Nat) : Bool := (serial - first) % interval = 0

/-- The generator steps at an interval start and gives the designation target (R121). A target above 2^32 - 1 is held as that
number, which no serial reaches (DESIGN CHOICE, notes/assumptions/3.md). -/
def drawTarget (serial interval : Nat) (u : ShadeUnit) : ShadeUnit :=
  { u with generator := stepGenerator u.generator, target := some (serial + (stepGenerator u.generator).toNat % interval) }

/-- Step 6 of R11: whether the newly created repeat, of the head job, is designated (R121). -/
def designate (serial : Nat) (s : State) : State :=
  match s.jobs.head with
  | none => s
  | some h =>
    let s1 := if startsInterval serial h.firstSerial h.record.sampleInterval then s.withShade (drawTarget serial h.record.sampleInterval s.shade) else s
    updateRepeat serial (fun r => { r with designated := s1.shade.target = some serial }) s1

/-! ### Samples and defect marks (R126 to R128) -/

/-- A shade with each component clamped to its range (R127). -/
def clampShade (v : Shade) : Shade := v.map (clamp (-Config.shadeMax) Config.shadeMax)

/-- The sample stored for a reading: clamped, with the flag set when a component was clamped (R127). -/
def storedSample (v : Shade) : Sample := { shade := clampShade v, clamped := clampShade v != v }

/-- The lane entry of a repeat for a lane, none when the lane is not in the lane mask of its job. -/
def Repeat.laneEntry (r : Repeat) (l : Lane) : Option LaneEntry := r.lanes.find? fun e => e.lane == l

/-- A repeat with the lane entry of a lane changed by `f`. -/
def Repeat.updateLane (l : Lane) (f : LaneEntry → LaneEntry) (r : Repeat) : Repeat :=
  { r with lanes := r.lanes.map fun e => if e.lane = l then f e else e }

/-- Stores a sample in the lane entry of a repeat (R127). -/
def storeSample (serial : Nat) (l : Lane) (v : Sample) (s : State) : State :=
  updateRepeat serial (Repeat.updateLane l fun e => { e with sample := some v }) s

/-- A lane entry's defect count after a mark; the sum saturates at 15 (R128). -/
def addDefects (held count : Nat) : Nat := saturate 15 (held + count)

/-- Adds a defect mark to the lane entry of a repeat (R128). -/
def storeDefects (serial : Nat) (l : Lane) (count : Nat) (s : State) : State :=
  updateRepeat serial (Repeat.updateLane l fun e => { e with defects := addDefects e.defects count }) s

/-! ### Grading (R130 to R136) -/

/-- The means of a roll: each sum over the sample count, rounded; absent without samples (R131). -/
def rollMeans (samples : Nat) (sums : Shade) : Option Shade :=
  if samples = 0 then none else some (sums.map fun x => roundDiv x samples)

/-- The spread of a roll: isqrt of the sum of the squares of the ranges; absent without samples (R131). -/
def rollSpread (minimum maximum : Option Shade) : Option Nat :=
  match minimum, maximum with
  | some lo, some hi => some (isqrt (Shade.zipWith (· - ·) hi lo).sumSquares)
  | _, _ => none

/-- The kinds that are REJECT whatever the roll holds (R132 check 1). -/
def rejectKind : RollKind → Bool
  | .stub | .scrap | .merged => true
  | .standard | .short => false

/-- Checks 1 to 5 of the grade table, none when the batch match decides (R132). -/
def gradeChecks (e : HistoryEntry) (j : JobRecord) : Option Grade :=
  if rejectKind e.kind then some .reject
  else if e.carriesPrior then some .reject
  else if j.defectLimit < e.defects then some .reject
  else if 0 < e.plain then some .reject
  else if e.samples < j.minSamples then some .ungraded
  else none

/-- The distance of a roll's means to a batch's centre (R133). -/
def batchDistance (means : Shade) (b : BatchEntry) : Nat := isqrt (Shade.zipWith (· - ·) means b.centre).sumSquares

/-- Whether a batch entry is a candidate for a roll (R133). -/
def isCandidate (means : Shade) (j : JobRecord) (b : BatchEntry) : Bool :=
  b.state == .opened && b.job == j.number && batchDistance means b ≤ j.batchTolerance

/-- Whether `b` comes before `c`: a smaller distance, or an equal one and a lower batch number (R133). -/
def closerBatch (means : Shade) (b c : BatchEntry) : Bool :=
  batchDistance means b < batchDistance means c || (batchDistance means b = batchDistance means c && b.number < c.number)

/-- The candidate a roll joins (R133). -/
def bestCandidate (means : Shade) (j : JobRecord) (batches : List BatchEntry) : Option BatchEntry :=
  (batches.filter (isCandidate means j)).foldl
    (fun best b => match best with
      | none => some b
      | some c => if closerBatch means b c then some b else some c) none

/-- The next batch number of a job: the first from its counter's value that no entry holds, up to base + 999 (R134). -/
def freeBatchNumber (counter base : Nat) (batches : List BatchEntry) : Option Nat :=
  (((List.range (batches.length + 1)).map (counter + ·)).find? fun v => !(batches.any fun b => b.number == v)).filter
    fun v => v ≤ base + 999

/-- Whether a job is the head job; its batch counter is then the head's (R134). -/
def isHeadJob (tag : Nat) (s : State) : Bool := (s.jobs.head.map fun h => h.record.number) == some tag

/-- The batch counter of a job. -/
def batchCounter (tag : Nat) (s : State) : Option Nat := if isHeadJob tag s then s.shade.headCounter else s.shade.tailCounter

/-- The shade unit with the batch counter of a job set. -/
def withBatchCounter (tag v : Nat) (s : State) : ShadeUnit :=
  if isHeadJob tag s then { s.shade with headCounter := some v } else { s.shade with tailCounter := some v }

/-- The entry stamp after one, wrapping from 2^32 - 1 to 1 (R138). -/
def nextStampAfter (n : Nat) : Nat := if n < Config.max32 then n + 1 else 1

/-- A new batch for a roll with these means: OPEN, empty, with the next number and stamp; BATCH_NEW (R134). -/
def openBatch (means : Shade) (j : JobRecord) (number : Nat) (s : State) : BatchEntry × State :=
  let b : BatchEntry := { number := number, job := j.number, centre := means, rolls := 0, totalMm := 0, state := .opened, stamp := s.shade.nextStamp }
  let u := withBatchCounter j.number (number + 1) s
  (b, raiseNotice .batchNew (s.withShade { u with nextStamp := nextStampAfter u.nextStamp, batches := u.batches ++ [b] }))

/-- A batch that a roll of a length joins: both sums rise, each saturating (R136). -/
def addRoll (mm : Nat) (b : BatchEntry) : BatchEntry :=
  { b with rolls := saturate Config.max16 (b.rolls + 1), totalMm := saturate Config.max32 (b.totalMm + mm) }

/-- A roll joins a batch: grade A or B, the batch's sums, and the number and stamp in the entry (R136). -/
def joinBatch (b : BatchEntry) (e : HistoryEntry) (j : JobRecord) (s : State) : HistoryEntry × State :=
  let grade := if (e.spread.getD 0) ≤ j.spreadLimit ∧ e.defects = 0 then Grade.a else Grade.b
  ({ e with grade := grade, batch := some b.number, stamp := some b.stamp },
   s.withShade { s.shade with batches := s.shade.batches.map fun x => if x.number = b.number then addRoll e.lengthMm x else x })

/-- The batch match: the nearest candidate, else a new batch, else HOLD with OFFSHADE (R133 to R135). -/
def matchBatch (means : Shade) (e : HistoryEntry) (j : JobRecord) (s : State) : HistoryEntry × State :=
  match bestCandidate means j s.shade.batches with
  | some b => joinBatch b e j s
  | none =>
    match (if s.shade.batches.length < Config.batchMax then batchCounter j.number s else none).bind
        fun v => freeBatchNumber v j.batchBase s.shade.batches with
    | some number =>
      let (b, s1) := openBatch means j number s
      joinBatch b e j s1
    | none => ({ e with grade := .hold }, raiseNotice .offshade s)

/-- Grades a closed roll: means, spread, grade and batch (R130 to R136). The entry comes with no grade and leaves with one. -/
def gradeRoll (e : HistoryEntry) (s : State) : HistoryEntry × State :=
  let e1 := { e with means := rollMeans e.samples e.sums, spread := rollSpread e.minimum e.maximum }
  match jobOf e.job s with
  | none => (e1, s)
  | some j =>
    match gradeChecks e1 j with
    | some g => ({ e1 with grade := g }, s)
    | none =>
      match e1.means with
      | some m => matchBatch m e1 j s
      | none => ({ e1 with grade := .ungraded }, s)

/-! ### The batch table (R139 to R142) -/

/-- The batch entry of a number. -/
def findBatch (number : Nat) (s : State) : Option BatchEntry := s.shade.batches.find? fun b => b.number == number

/-- Close Batch: the entry becomes CLOSED (R139). -/
def closeBatch (number : Nat) (s : State) : State :=
  s.withShade { s.shade with batches := s.shade.batches.map fun b => if b.number = number then { b with state := .closed } else b }

/-- Retire Batch: a CLOSED entry leaves the table (R140). -/
def retireBatch (number : Nat) (s : State) : State :=
  s.withShade { s.shade with batches := s.shade.batches.filter fun b => b.number != number }

/-- At JOB_CLEAR every OPEN entry of the tail job becomes CLOSED and its counter is dropped (R141). -/
def batchesAtJobClear (tag : Nat) (s : State) : State :=
  s.withShade { s.shade with
    tailCounter := none
    batches := s.shade.batches.map fun b => if b.job = tag then { b with state := .closed } else b }

/-- A sum of a batch entry after a withdrawal of `n`: left at its saturation limit when it stands there (R142). -/
def lowerSum (limit sum n : Nat) : Nat := if sum = limit then sum else sum - n

/-- A withdrawn roll's batch membership is undone when an entry with its stamp is in the table (R142); an older entry whose stamp has
come round is taken for it too (DESIGN CHOICE, notes/assumptions/25.md). -/
def withdrawFromBatch (e : HistoryEntry) (s : State) : State :=
  match e.batch, e.stamp with
  | some _, some stamp =>
    s.withShade { s.shade with batches := s.shade.batches.map fun b =>
      if b.stamp = stamp then
        { b with rolls := lowerSum Config.max16 b.rolls 1, totalMm := lowerSum Config.max32 b.totalMm e.lengthMm }
      else b }
  | _, _ => s

/-! ### The batch counters (R134) and the target (R122) -/

/-- At a change point the head counter moves to the tail with the former head job, and the new head's counter starts at its
base (R134). -/
def shadeAtJobSwitch (hadHead : Bool) (base : Nat) (u : ShadeUnit) : ShadeUnit :=
  { u with tailCounter := if hadHead then u.headCounter else u.tailCounter, headCounter := some base }

/-- At End Job the head counter moves to the tail and the designation target becomes absent (R134, R122). -/
def shadeAtEndJob (u : ShadeUnit) : ShadeUnit :=
  { u with tailCounter := u.headCounter, headCounter := none, target := none }

/-- Line reset: the target and both counters become absent (R145). -/
def shadeAtLineReset (u : ShadeUnit) : ShadeUnit := { u with target := none, headCounter := none, tailCounter := none }

end Sys2Proof.Machine
end

