-- ==== Sys2Proof/Machine/Rolls.lean ====
section
/-! DEFINITION. Lanes, Rolls and the Knife: the knife registration, the knife crossing with its folds, cuts, closes, retirement
and lane switches, JOB_CLEAR, Start Roll, and the merge and the mark of Cut Fault. -/

namespace Sys2Proof.Machine

open Sys2Proof

/-- `s` with the record of a lane replaced. -/
def setLane (l : Lane) (r : LaneRecord) (s : State) : State := s.withRolls { s.rolls with lanes := s.rolls.lanes.set l r }

/-! ### The knife registration (R96) -/

/-- The knife registration due for the record at the knife cursor (R96). -/
def dueKnifeReg (s : State) : Option KnifeReg :=
  match findRepeat s.map.knifeCursor s with
  | none => none
  | some k =>
    match findRepeat (k.serial + 1) s with
    | some n => (jobOf n.job s).map fun j => { position := n.start + s.jobs.geometry.dCut + j.cutPhase, kind := .successorBoundary }
    | none =>
      match s.jobs.tail with
      | none => none
      | some t =>
        if t.lastSerial = k.serial then
          t.finalBoundary.map fun b => { position := b + s.jobs.geometry.dCut + t.record.cutPhase, kind := .finalPosition }
        else none

/-- Places the knife registration (R96). -/
def placeKnife (s : State) : State := s.withRolls { s.rolls with knifeReg := dueKnifeReg s }

/-! ### The fold (R98, R99) -/

/-- The shade sample a repeat's lane entry holds. -/
def laneSample (k : Repeat) (l : Lane) : Option Shade := ((k.laneEntry l).bind (·.sample)).map (·.shade)

/-- Whether a value lies in the signed 32-bit range of the shade sums. -/
def inSumRange (x : Int) : Bool := -(2 ^ 31) ≤ x && x ≤ 2 ^ 31 - 1

/-- A shade sum after a fold; outside its 32-bit range the value is free (notes/assumptions/3.md). -/
def addToSum (free : BitVec 32) (sum x : Int) : Int := if inSumRange (sum + x) then sum + x else free.toInt

/-- A repeat count after a fold; above 65535 the value is free (notes/assumptions/3.md). -/
def addRepeat (free : BitVec 16) (n : Nat) : Nat := if n < Config.max16 then n + 1 else free.toNat

/-- A minimum or maximum widened by a value with `f` the choice between two (R98). -/
def widen (f : Int → Int → Int) (held : Option Shade) (v : Shade) : Shade :=
  match held with
  | none => v
  | some h => Shade.zipWith f h v

/-- An open roll's shade accumulators after the fold of a sample (R98). -/
def foldSample (draw : Nat) (v : Shade) (o : OpenRoll) : OpenRoll :=
  { o with
    samples := saturate Config.max16 (o.samples + 1)
    sums :=
      { lightness := addToSum (Config.shadeSumPast draw) o.sums.lightness v.lightness
        redGreen := addToSum (Config.shadeSumPast (draw + 1)) o.sums.redGreen v.redGreen
        yellowBlue := addToSum (Config.shadeSumPast (draw + 2)) o.sums.yellowBlue v.yellowBlue }
    minimum := some (widen min o.minimum v)
    maximum := some (widen max o.maximum v) }

/-- The sum of a flag: 1 when it holds. -/
def oneIf (b : Bool) : Nat := if b then 1 else 0

/-- An open roll's other accumulators after the fold of repeat `k` on a lane (R98). -/
def foldCounts (draw : Nat) (k : Repeat) (l : Lane) (o : OpenRoll) : OpenRoll :=
  let defects := ((k.laneEntry l).map (·.defects)).getD 0
  { o with
    repeats := addRepeat (Config.repeatCountPast draw) o.repeats
    length := saturate Config.max32 (o.length + k.length.getD 0)
    firstSerial := if o.repeats = 0 then some k.serial else o.firstSerial
    lastSerial := some k.serial
    missed := saturate Config.max16 (o.missed + oneIf (k.designated && (laneSample k l).isNone))
    defects := saturate Config.max16 (o.defects + defects)
    plain := saturate Config.max16 (o.plain + oneIf (k.emboss == .plain && !k.excluded))
    excluded := saturate Config.max16 (o.excluded + oneIf k.excluded) }

/-- An open roll after the fold of repeat `k` on a lane, without its roll id (R98). -/
def foldRoll (draw : Nat) (k : Repeat) (l : Lane) (o : OpenRoll) : OpenRoll :=
  match laneSample k l with
  | none => foldCounts draw k l o
  | some v => foldSample draw v (foldCounts draw k l o)

/-- Whether the fold of `k` gives a value that no rule states. -/
def foldIsOpen (k : Repeat) (l : Lane) (o : OpenRoll) : Bool :=
  o.repeats == Config.max16 ||
    match laneSample k l with
    | none => false
    | some v => !(inSumRange (o.sums.lightness + v.lightness) && inSumRange (o.sums.redGreen + v.redGreen)
        && inSumRange (o.sums.yellowBlue + v.yellowBlue))

/-- The roll id counter after one id, wrapping from 2^32 - 1 to 1 (R99). -/
def nextRollIdAfter (n : Nat) : Nat := if n < Config.max32 then n + 1 else 1

/-- The open roll of a lane takes a roll id when it has none (R99). -/
def takeRollId (l : Lane) (s : State) : State :=
  let r := s.rolls.lanes.get l
  if r.roll.rollId.isSome then s
  else
    s.withRolls { s.rolls with
      lanes := s.rolls.lanes.set l { r with roll := { r.roll with rollId := some s.rolls.nextRollId } }
      nextRollId := nextRollIdAfter s.rolls.nextRollId }

/-- Folds repeat `k` into the open roll of a WINDING lane (R97 step 1, R98, R99). -/
def foldLane (k : Repeat) (s : State) (l : Lane) : State :=
  if (s.rolls.lanes.get l).state = .idle then s
  else
    let s1 := takeRollId l s
    let r := s1.rolls.lanes.get l
    let s2 := setLane l { r with roll := foldRoll s1.model.draws k l r.roll } s1
    if foldIsOpen k l r.roll then advanceDraws 3 s2 else s2

/-! ### Closing a roll (R102 to R105) -/

/-- The kind of a closed roll, not closed by line reset, with the n_roll and m_min of its job (R103). -/
def rollKind (nRoll mMin : Nat) (o : OpenRoll) : RollKind :=
  if o.merged then .merged
  else if 0 < o.excluded then .stub
  else if o.repeats = nRoll then .standard
  else if mMin ≤ o.repeats ∧ o.repeats < nRoll then .short
  else .scrap

/-- A length in millimetres: the counts over 20, rounded (R108). -/
def millimetres (counts : Nat) : Nat := (roundDiv counts 20).toNat

/-- The history entry of a lane's open roll, before its grading and its label (R105 step 1, R108). -/
def entryOf (l : Lane) (kind : RollKind) (reason : CloseReason) (o : OpenRoll) : HistoryEntry :=
  { rollId := o.rollId.getD 0, lane := l, job := o.job.getD 0, firstSerial := o.firstSerial.getD 0,
    lastSerial := o.lastSerial.getD 0, repeats := o.repeats, lengthCounts := o.length, lengthMm := millimetres o.length,
    kind := kind, reason := reason, samples := o.samples, sums := o.sums, minimum := o.minimum, maximum := o.maximum,
    missed := o.missed, defects := o.defects, plain := o.plain, excluded := o.excluded, carriesPrior := o.carriesPrior,
    grade := .reject, means := none, spread := none, batch := none, stamp := none, labelState := .missed, pattern := [] }

/-- The history with an entry joined, its oldest dropped first when it is full (R105, R108). -/
def joinHistory (e : HistoryEntry) (h : List HistoryEntry) : List HistoryEntry :=
  (if Config.historyMax ≤ h.length then h.drop 1 else h) ++ [e]

/-- Closes a lane's open roll: history, grade, label, the lane's last closed roll, ROLL_CLOSED (R105, R147, R148, R150). -/
def closeRoll (l : Lane) (kind : RollKind) (reason : CloseReason) (s : State) : State :=
  let o := (s.rolls.lanes.get l).roll
  let g := gradeRoll (entryOf l kind reason o) s
  let e := { g.1 with pattern := ((jobOf g.1.job g.2).map (·.pattern)).getD [] }
  let q := queueLabel (labelOf e .first) g.2
  let s1 := claimAfterClose q.2
  let s2 := s1.withRolls { s1.rolls with history := joinHistory { e with labelState := q.1 } s1.rolls.history }
  let r := s2.rolls.lanes.get l
  let s3 := setLane l { r with roll := OpenRoll.empty (s2.rolls.knifeJob.map (·.number)), lastClosed := o.rollId } s2
  raiseNotice .rollClosed s3

/-- Issues a strobe on a lane's knife output; a pulse that is still high is stretched, and the output stays high (R102). -/
def strobe (l : Lane) (s : State) : State := s.withPins { s.pins with knives := s.pins.knives.set l true }

/-- The reason of a cut before repeat `n` on a lane, none when no reason applies (R101). -/
def cutReason (isFinal : Bool) (k : Repeat) (n : Option Repeat) (nRoll : Nat) (r : LaneRecord) : Option CloseReason :=
  if isFinal then some .jobEnd
  else if (n.map (·.changePoint)).getD false then some .jobChange
  else if (n.map (·.excluded)).getD false && !k.excluded then some .zoneStart
  else if k.excluded && !((n.map (·.excluded)).getD true) then some .zoneEnd
  else if nRoll ≤ r.roll.repeats then some .length
  else if r.forced then some .forced
  else none

/-- A cut on a lane: a strobe, the close of its open roll, and its forced flag cleared; an empty roll is not closed and not
strobed (R102). -/
def cutLane (l : Lane) (reason : CloseReason) (s : State) : State :=
  if (s.rolls.lanes.get l).roll.repeats = 0 then s
  else
    let nRoll := (s.rolls.knifeJob.map (·.standardRepeats)).getD 0
    let mMin := (s.rolls.knifeJob.map (·.minRepeats)).getD 0
    let s1 := closeRoll l (rollKind nRoll mMin (s.rolls.lanes.get l).roll) reason (strobe l s)
    setLane l { s1.rolls.lanes.get l with forced := false } s1

/-- The cut decision of a lane (R97 step 2, R101). -/
def decideCut (isFinal : Bool) (k : Repeat) (n : Option Repeat) (s : State) (l : Lane) : State :=
  if (s.rolls.lanes.get l).state = .idle then s
  else
    match cutReason isFinal k n ((s.rolls.knifeJob.map (·.standardRepeats)).getD 0) (s.rolls.lanes.get l) with
    | none => s
    | some reason => cutLane l reason s

/-! ### Retirement and JOB_CLEAR (R31, R52) -/

/-- The tail job has left the path: its stations go OFF, its slot empties, JOB_CLEAR is raised, its batch entries close and,
with no head job, the splice positions left are dropped (R52, R18, R62, R141). -/
def jobClear (tag : Nat) (s : State) : State :=
  let s1 := stationsAtJobClear tag s
  let s2 := raiseNotice .jobClear (s1.withJobs { s1.jobs with tail := none })
  let s3 := if s2.jobs.head.isNone then s2.withPos { s2.pos with splices := [] } else s2
  batchesAtJobClear tag s3

/-- Whether the retirement of a repeat of job `tag` clears the tail job: it is the tail job's, and none of its repeats
remains (R52). -/
def clearsTail (tag : Nat) (s : State) : Bool :=
  (s.jobs.tail.map fun t => t.record.number) == some tag && !(s.map.ring.any fun r => r.job == tag)

/-- Retires the oldest record: it leaves the ring, the retired mark and the knife cursor move, the job unit is told (R31). After
the serial 2^32 - 1 the knife cursor holds 2^32, which no serial is (DESIGN CHOICE, notes/assumptions/3.md). -/
def retire (k : Repeat) (s : State) : State :=
  let s1 := s.withMap { s.map with ring := s.map.ring.drop 1, retired := k.serial, knifeCursor := k.serial + 1 }
  if clearsTail k.job s1 then jobClear k.job s1 else s1

/-! ### Lanes across jobs (R106, R107) -/

/-- A lane's record when the lanes take up a job: WINDING when the new job winds it, IDLE otherwise (R106). The job of an empty
roll is the knife job, on an IDLE lane too. -/
def laneTakesUp (tag : Nat) (inNew : Bool) (r : LaneRecord) : LaneRecord :=
  if inNew then
    { state := .winding, roll := if r.state = .winding then { r.roll with job := some tag } else OpenRoll.empty (some tag),
      forced := r.state == .winding && r.forced, lastClosed := r.lastClosed }
  else LaneRecord.idle (some tag) r.lastClosed

/-- The lanes take up the job of a change point; its lane mask, n_roll and m_min are copied (R106). -/
def takeUpJob (rec : Repeat) (s : State) : State :=
  match jobOf rec.job s with
  | none => s
  | some j =>
    s.withRolls { s.rolls with
      knifeJob := some { number := rec.job, lanes := j.lanes, standardRepeats := j.standardRepeats, minRepeats := j.minRepeats }
      lanes := PerLane.tabulate fun l => laneTakesUp rec.job (j.lanes.get l) (s.rolls.lanes.get l) }

/-- Every lane becomes IDLE, keeping its last closed roll, and the knife job becomes absent (R107, R118). -/
def lanesIdle (s : State) : State :=
  s.withRolls { s.rolls with
    knifeJob := none
    lanes := PerLane.tabulate fun l => LaneRecord.idle none (s.rolls.lanes.get l).lastClosed }

/-! ### The knife crossing (R97) -/

/-- Steps 1 and 2 of R97: every WINDING lane folds `k`, then every WINDING lane decides whether to cut. -/
def foldAndCut (isFinal : Bool) (k : Repeat) (n : Option Repeat) (s : State) : State :=
  allLanes.foldl (decideCut isFinal k n) (allLanes.foldl (foldLane k) s)

/-- Step 4 of R97: the lanes switch at a change point, and go IDLE at a final knife position. -/
def switchLanes (isFinal : Bool) (n : Option Repeat) (s : State) : State :=
  if isFinal then lanesIdle s
  else
    match n with
    | none => s
    | some rec => if rec.changePoint then takeUpJob rec s else s

/-- Steps 1 to 4 of R97 for the record `k` at the knife cursor: the registration is dropped, every WINDING lane folds and decides,
`k` retires, and the lanes switch. -/
def actAtKnife (kind : KnifeKind) (k : Repeat) (s : State) : State :=
  let isFinal := kind == .finalPosition
  let n := if isFinal then none else findRepeat (k.serial + 1) s
  switchLanes isFinal n (retire k (foldAndCut isFinal k n (s.withRolls { s.rolls with knifeReg := none })))

/-- Places the knife registration (R96). A position that the high-water position has reached already counts as crossed at its
registration, and the knife acts at once, on the repeats in serial order (R2, R96). -/
def settleKnife : Nat → State → State
  | 0, s => placeKnife s
  | fuel + 1, s =>
    match dueKnifeReg s, findRepeat s.map.knifeCursor s with
    | some reg, some k => if reg.position ≤ s.pos.highWater then settleKnife fuel (actAtKnife reg.kind k s) else placeKnife s
    | _, _ => placeKnife s

/-- The knife registration is placed for the record at the cursor; every record of the ring is folded at most once. -/
def restKnife (s : State) : State := settleKnife s.map.ring.length s

/-- The high-water position crosses the knife registration (R97): the knife acts, and the next registration is placed. -/
def knifeCrossing (s : State) : State :=
  match s.rolls.knifeReg, findRepeat s.map.knifeCursor s with
  | some reg, some k => restKnife (actAtKnife reg.kind k s)
  | _, _ => s.withRolls { s.rolls with knifeReg := none }

/-- What the creation of a record does at the knife: a waiting knife cursor rests on it and the lanes take up its job; the
registration becomes due when it follows the record at the cursor (R96, R106). -/
def knifeAtCreation (rec : Repeat) (s : State) : State :=
  if s.map.knifeCursor = rec.serial then restKnife (if rec.changePoint then takeUpJob rec s else s)
  else if s.map.knifeCursor + 1 = rec.serial then restKnife s
  else s

/-! ### Start Roll and Cut Fault (R110 to R114) -/

/-- A lane's record with its forced flag set when the lane is WINDING (R110). -/
def forceLane (r : LaneRecord) : LaneRecord := if r.state = .winding then { r with forced := true } else r

/-- Sets the forced flag of each WINDING lane of a mask (R110). -/
def forceLanes (mask : PerLane Bool) (s : State) : State :=
  s.withRolls { s.rolls with
    lanes := PerLane.tabulate fun l => if mask.get l then forceLane (s.rolls.lanes.get l) else s.rolls.lanes.get l }

/-- The lower minimum or the higher maximum of two, or the one that is present (R113). -/
def mergeBound (f : Int → Int → Int) (a b : Option Shade) : Option Shade :=
  match a, b with
  | some x, some y => some (Shade.zipWith f x y)
  | some x, none => some x
  | none, y => y

/-- A merged shade sum, saturating at its 32-bit limits (R113). -/
def mergeSum (a b : Int) : Int := clamp (-(2 ^ 31)) (2 ^ 31 - 1) (a + b)

/-- The open roll that takes the closed roll `c` back (R113). -/
def mergeRoll (c : HistoryEntry) (o : OpenRoll) : OpenRoll :=
  { o with
    repeats := saturate Config.max16 (o.repeats + c.repeats)
    length := saturate Config.max32 (o.length + c.lengthCounts)
    samples := saturate Config.max16 (o.samples + c.samples)
    sums := Shade.zipWith mergeSum o.sums c.sums
    minimum := mergeBound min o.minimum c.minimum
    maximum := mergeBound max o.maximum c.maximum
    missed := saturate Config.max16 (o.missed + c.missed)
    defects := saturate Config.max16 (o.defects + c.defects)
    plain := saturate Config.max16 (o.plain + c.plain)
    excluded := saturate Config.max16 (o.excluded + c.excluded)
    firstSerial := some c.firstSerial
    lastSerial := if o.repeats = 0 then some c.lastSerial else o.lastSerial
    carriesPrior := o.carriesPrior || c.carriesPrior
    merged := true }

/-- The merge of a closed roll back into its lane's open roll, with the label withdrawn and the batch membership undone (R113,
R142, R156). -/
def mergeBack (l : Lane) (c : HistoryEntry) (s : State) : State :=
  let r := s.rolls.lanes.get l
  let s1 := setLane l { r with roll := mergeRoll c r.roll, forced := true } s
  let s2 := if c.labelState = .queued then removeLabel c.rollId s1 else s1
  withdrawFromBatch c (setLabelState c.rollId .withdrawn s2)

/-- A Cut Fault answered TOO_LATE marks the lane's open roll carries-prior (R114). -/
def markCarriesPrior (l : Lane) (s : State) : State :=
  let r := s.rolls.lanes.get l
  setLane l { r with roll := { r.roll with carriesPrior := true } } s

/-- How a Cut Fault for a roll on a lane is decided, in the order of the table of R112. -/
inductive CutFaultVerdict where
  | stale
  | tooLate
  | merge (c : HistoryEntry)
  deriving DecidableEq, Repr

/-- The verdict on a Cut Fault (R112); the lane's last closed roll is known by its id alone (notes/assumptions/25.md). -/
def judgeCutFault (l : Lane) (rollId : Nat) (s : State) : CutFaultVerdict :=
  let r := s.rolls.lanes.get l
  if r.lastClosed ≠ some rollId then .stale
  else
    match findEntry rollId s with
    | none => .stale
    | some c =>
      if c.reason = .lineReset then .stale
      else if c.labelState = .withdrawn then .stale
      else if r.state = .idle then .stale
      else if c.labelState = .issued ∨ c.labelState = .applied then .tooLate
      else if r.roll.job ≠ some c.job then .tooLate
      else .merge c

/-! ### Line reset (R118) -/

/-- Line reset closes a lane's non-empty open roll as SCRAP, giving it a roll id when it has none; no strobe (R118). -/
def closeAtLineReset (s : State) (l : Lane) : State :=
  if (s.rolls.lanes.get l).roll.repeats = 0 then s else closeRoll l .scrap .lineReset (takeRollId l s)

/-- How many lanes hold a non-empty open roll: the count in Line Reset's answer (R118). -/
def openRollCount (s : State) : Nat := (allLanes.filter fun l => (s.rolls.lanes.get l).roll.repeats != 0).length

end Sys2Proof.Machine
end

