-- ==== Sys2Proof/Machine/Position.lean ====
section
/-! DEFINITION. Line Position and the Repeat Clock: encoder, measured speed, the reference station, repeat creation with job
switching, splices and exclusion; and the part's reset of this block. -/

namespace Sys2Proof.Machine

open Sys2Proof

/-! ### Encoder and measured speed (R1 to R3) -/

/-- The travel an encoder transition shows, none when both inputs change together (R1). The direction is found from the level
of the other input: A leads at an edge of A to the other's opposite level and at an edge of B to the other's level. -/
def edgeForward (aLeadsForward : Bool) : EncoderEdge → Option Bool
  | .onA level other => some ((level != other) == aLeadsForward)
  | .onB level other => some ((level == other) == aLeadsForward)
  | .together => none

/-- The line position after a counted edge; it saturates at both ends (R1). -/
def movePosition (forward : Bool) (pos : Nat) : Nat := if forward then saturate Config.lineMax (pos + 1) else pos - 1

/-- The line position and the high-water position after a counted edge (R1, R2). -/
def countEdge (forward : Bool) (s : State) : State :=
  let p := movePosition forward s.pos.linePos
  s.withPos { s.pos with linePos := p, highWater := max s.pos.highWater p }

/-- The measured speed from the high-water advance over an interval (R3). -/
def speedOf (advance : Nat) : Nat := saturate Config.speedMax (advance * 3 / 10)

/-- The interval timer expires: the measured speed is set, a new interval starts, and the emboss unit tests the low-speed cause
(R3, R87). -/
def takeInterval (s : State) : State :=
  retestCauses (s.withPos { s.pos with
    speed := speedOf (s.pos.highWater - s.pos.intervalStart)
    intervalStart := s.pos.highWater })

/-! ### Splices and exclusion (R13 to R17) -/

/-- Whether a serial lies in the zone of a splice repeat: `b` before it to `a` after it (R16). -/
def inZone (n b a serial : Nat) : Bool := n ≤ serial + b && serial ≤ n + a

/-- A record after the flagging of splice repeat `n` (R16 steps 1 to 3). -/
def flagRecord (n b a : Nat) (r : Repeat) : Repeat :=
  { r with splice := r.splice || r.serial == n, excluded := r.excluded || inZone n b a r.serial }

/-- The exclusion extent after the flagging of splice repeat `n` (R16 step 4). An extent above 2^32 - 1 is held as that number, which
no serial reaches, and is sent modulo 2^32 (DESIGN CHOICE, notes/assumptions/3.md). -/
def extentAfter (n a extent newest : Nat) : Nat := if extent < n + a ∧ newest < n + a then n + a else extent

/-- Flags a repeat as a splice repeat: the zone, the extent, SPLICE_SEEN, its splice lift, and the skip test again at each
station (R16, R64, R88). -/
def flagSplice (n : Repeat) (s : State) : State :=
  match jobOf n.job s with
  | none => s
  | some j =>
    let s1 := s.withMap { s.map with
      ring := s.map.ring.map (flagRecord n.serial j.excludeBefore j.excludeAfter)
      extent := extentAfter n.serial j.excludeAfter s.map.extent ((newestSerial s).getD 0) }
    recheckStations (placeLift n (raiseNotice .spliceSeen s1))

/-- Resolves the splice list against the span of the newest record, which the event has just completed (R15). -/
def resolveSplices (s : State) : State :=
  match s.map.ring.getLast? with
  | none => s
  | some n =>
    if s.pos.splices.any fun p => inSpan p n then
      flagSplice n (s.withPos { s.pos with splices := s.pos.splices.filter fun p => !inSpan p n })
    else s

/-- Whether a position lies before the start of the oldest record in the ring (R13, R14). -/
def beforeOldest (p : Nat) (s : State) : Bool :=
  match oldestRepeat s with
  | none => false
  | some r => p < r.start

/-- A leading edge on SPL at the line position (R13, R14). A splice position above 2^48 - 1 is held as the exact sum, since R13
gives it no limit; Status sends it modulo 2^48 (DESIGN CHOICE, notes/assumptions/9.md). -/
def takeSplice (s : State) : State :=
  let p := s.pos.linePos + s.jobs.geometry.dSp
  if s.jobs.head.isNone then s
  else
    match s.map.ring.find? (inSpan p) with
    | some n => if n.splice then s else flagSplice n s
    | none =>
      if beforeOldest p s then s
      else if s.pos.splices.contains p then s
      else if s.pos.splices.length < Config.spliceListMax then
        s.withPos { s.pos with splices := insertBy id p s.pos.splices }
      else raiseNotice .spliceListFull s

/-! ### Repeat creation (R11) -/

/-- Steps 1 and 2 of R11 and of R12: the newest record takes its length, and the splice list is resolved against its span. -/
def completeNewest (length : Repeat → Nat) (s : State) : State :=
  match s.map.ring.getLast? with
  | none => s
  | some r => resolveSplices (updateRepeat r.serial (fun x => { x with length := some (length r) }) s)

/-- The serial counter after a serial; after 2^32 - 1 it is free (notes/assumptions/3.md). -/
def serialAfter (draw n : Nat) : Nat := if n < Config.max32 then n + 1 else (Config.serialPastLast draw).toNat

/-- Step 3 of R11: the counter rises past the serial just taken. -/
def takeSerial (s : State) : State :=
  let s1 := s.withPos { s.pos with nextSerial := serialAfter s.model.draws s.pos.nextSerial }
  if s.pos.nextSerial < Config.max32 then s1 else advanceDraws 1 s1

/-- Step 4 of R11: the armed job becomes the head job with the new serial as its first, the former head job becomes the tail
job, JOB_SWITCHED is raised (R47). -/
def switchJobs (j : JobRecord) (serial : Nat) (s : State) : State :=
  let jobs : JobUnit := { s.jobs with
    staged := none
    head := some { record := j, firstSerial := serial }
    tail := match s.jobs.head with
      | none => s.jobs.tail
      | some h => some { record := h.record, firstSerial := h.firstSerial, lastSerial := serial - 1, finalBoundary := none } }
  raiseNotice .jobSwitched
    ((s.withJobs jobs).withShade (shadeAtJobSwitch s.jobs.head.isSome j.batchBase s.shade))

/-- The record of a new repeat of job `j` (R22); the excluded flag is set against the extent (R17). -/
def newRepeat (j : JobRecord) (serial start : Nat) (origin : Origin) (changePoint : Bool) (res : StationResult) (extent : Nat) : Repeat :=
  { serial := serial, start := start, length := none, job := j.number, origin := origin, changePoint := changePoint,
    splice := false, excluded := serial ≤ extent, designated := false, refResult := res,
    results := PerStation.tabulate fun st => if (j.entry st).isSome then .pending else .skipped,
    emboss := .pending,
    lanes := (lanesOf j.lanes).map fun l => { lane := l, sample := none, defects := 0 } }

/-- Step 5 of R11: the record joins the ring at its newest end, and the extent returns to 0 when the zone is complete (R17,
R21). -/
def appendRepeat (rec : Repeat) (s : State) : State :=
  s.withMap { s.map with ring := s.map.ring ++ [rec], extent := if rec.serial = s.map.extent then 0 else s.map.extent }

/-- What the waiting cursors do at the creation of a record (R28), in the order of the web (notes/assumptions/23.md): the stations
before the knife, since a station decides a record, and switches at the change point, before the record retires (DEDUCED from R31
and R62); the nip's place between them no rule gives (DESIGN CHOICE). -/
def cursorsAtCreation (rec : Repeat) (s : State) : State :=
  let s1 := stationsAtCreation rec s
  let s2 := if s1.map.nipCursor = rec.serial then restNip s1 else s1
  knifeAtCreation rec s2

/-- Step 4 of R11, when a job is armed. -/
def nameJob (armed : Option JobRecord) (serial : Nat) (s : State) : State :=
  match armed with
  | some a => switchJobs a serial s
  | none => s

/-- Creates a repeat of the creating job `j` (R11). The new window of step 7 follows from the state (R4). -/
def createRepeat (j : JobRecord) (start : Nat) (origin : Origin) (res : StationResult) (s : State) : State :=
  let s2 := completeNewest (fun r => start - r.start) s
  let serial := s2.pos.nextSerial
  let s4 := nameJob (armedJob s2) serial (takeSerial s2)
  let rec5 := newRepeat j serial start origin (armedJob s2).isSome res s4.map.extent
  designate serial (cursorsAtCreation rec5 (appendRepeat rec5 s4))

/-! ### The reference station (R4 to R10) -/

/-- Whether the reference has an expected window in a state (R4). -/
def hasWindow : RefState → Bool
  | .locked | .coasting | .lost => true
  | .idle | .seeking => false

/-- The expected window of the reference: its centre p + R and half-width W of the creating job (R4). -/
def refWindow (s : State) : Option Window :=
  if hasWindow s.pos.ref.state then
    match s.pos.ref.newestStart, creatingJob s with
    | some p, some j => some { centre := p + j.length, halfWidth := j.halfWindow }
    | _, _ => none
  else none

/-- `s` with the reference station record replaced. -/
def setRef (r : RefRecord) (s : State) : State := s.withPos { s.pos with ref := r }

/-- A MARKED repeat with error `err` at the line position (R6, R7); on leaving LOST the REF claim is released and REF_LOCKED is
raised (R10). A station that the creation makes LOST fills REG before REF is released: no rule orders the two, and the order can
decide the ACTIVE slot (DESIGN CHOICE, notes/assumptions/23.md). -/
def markedRepeat (j : JobRecord) (err : Int) (s : State) : State :=
  let t := s.pos.linePos
  let s1 := createRepeat j t .marked (.matched err) s
  let s2 := setRef { s1.pos.ref with state := .locked, newestStart := some t, synthRun := 0, lastError := err } s1
  if s.pos.ref.state = .lost then raiseNotice .refLocked (setSlot .ref none s2) else s2

/-- A stray on M0 (R8). -/
def refStray (s : State) : State := setRef { s.pos.ref with strays := saturate Config.max16 (s.pos.ref.strays + 1) } s

/-- A leading edge on M0 at the line position (R5 to R8). -/
def takeReferenceMark (s : State) : State :=
  match s.pos.ref.state with
  | .idle => s
  | .seeking =>
    match armedJob s with
    | none => s
    | some j => markedRepeat j 0 s
  | .locked | .coasting | .lost =>
    match refWindow s, creatingJob s with
    | some w, some j =>
      if inWindow s.pos.linePos w then markedRepeat j (s.pos.linePos - w.centre : Int) s else refStray s
    | _, _ => refStray s

/-- The reference state after a SYNTH repeat (R9). -/
def stateAfterSynth (state : RefState) (run limit : Nat) : RefState :=
  if state = .lost then .lost else if run < limit then .coasting else .lost

/-- The REF claim of a job: level 6 at its recovery speed (R10). -/
def refClaim (j : JobRecord) : ClaimValue := { level := refLevel, speed := j.recoverySpeed }

/-- The high-water position crosses the reference window end: a SYNTH repeat at p + R (R9), with the entry into LOST, and the REF
claim set again for a new head job in LOST (R10), after the creation's own changes of REG (notes/assumptions/23.md). -/
def refWindowEnd (s : State) : State :=
  match refWindow s, creatingJob s with
  | some w, some j =>
    let wasArmed := (armedJob s).isSome
    let run := saturate 255 (s.pos.ref.synthRun + 1)
    let state := stateAfterSynth s.pos.ref.state run j.missLimit
    let s1 := createRepeat j w.centre .synth .missed s
    let s2 := setRef { s1.pos.ref with state := state, newestStart := some w.centre, synthRun := run } s1
    if s.pos.ref.state = .lost then (if wasArmed then setSlot .ref (some (refClaim j)) s2 else s2)
    else if state = .lost then raiseNotice .refLost (setSlot .ref (some (refClaim j)) s2)
    else s2
  | _, _ => s

end Sys2Proof.Machine
end

