-- ==== Sys2Proof/Machine/Crossings.lean ====
section
/-! DEFINITION. Crossing positions (R2): the positions the blocks have registered, which of them are due, and the taking of due
crossings, lowest position first, each an event of its own (notes/assumptions/5.md); and the input edges that arrive together
with crossings (notes/assumptions/22.md). -/

namespace Sys2Proof.Machine

open Sys2Proof

/-- What a registered position belongs to. A splice lift is named by the serial of its entry. -/
inductive Crossing where
  | refWindowEnd
  | stationWindowEnd (st : Station)
  | nip
  | liftStart (serial : Nat)
  | liftEnd (serial : Nat)
  | knife
  deriving DecidableEq, Repr

/-- The window end a station has registered; station 7 with its deferred miss set has had its end crossed already (R65). -/
def stationEnd (s : State) (st : Station) : Option (Int × Crossing) :=
  let r := s.register.get st
  if r.deferredMiss then none
  else r.window.map fun w => ((w.centre + w.halfWidth : Nat), .stationWindowEnd st)

/-- The position a splice lift entry has registered: its start while PENDING, and then its end when that is a crossing of its
own (R88, R89). -/
def liftPosition (s : State) (l : SpliceLift) : Option (Int × Crossing) :=
  match l.state with
  | .pending => some (l.startPos, .liftStart l.serial)
  | .inForce => if endsAlone s l then some (l.endPos, .liftEnd l.serial) else none

/-- Every registered position. -/
def registered (s : State) : List (Int × Crossing) :=
  ((refWindow s).map fun w => (((w.centre + w.halfWidth : Nat) : Int), Crossing.refWindowEnd)).toList
    ++ allStations.filterMap (stationEnd s)
    ++ (s.emboss.nipReg.map fun p => ((p : Int), Crossing.nip)).toList
    ++ s.emboss.lifts.filterMap (liftPosition s)
    ++ (s.rolls.knifeReg.map fun k => ((k.position : Int), Crossing.knife)).toList

/-- The registered positions that the high-water position has reached. -/
def dueCrossings (s : State) : List (Int × Crossing) := (registered s).filter fun c => c.1 ≤ s.pos.highWater

/-- The due crossings of the lowest due position. -/
def lowestDue (s : State) : List Crossing :=
  let due := dueCrossings s
  (due.filter fun c => due.all fun d => c.1 ≤ d.1).map (·.2)

/-- One of the crossings of the lowest due position; among several the choice is free (notes/assumptions/5.md). -/
def pickCrossing (draw : Nat) (cs : List Crossing) : Option Crossing :=
  match cs with
  | [] => none
  | [c] => some c
  | c :: rest => some (((c :: rest)[Config.tieChoice draw % (rest.length + 1)]?).getD c)

/-- Takes one crossing. -/
def takeCrossing : Crossing → State → State
  | .refWindowEnd, s => refWindowEnd s
  | .stationWindowEnd st, s => stationWindowEnd st s
  | .nip, s => nipCrossing s
  | .liftStart serial, s => liftStart serial s
  | .liftEnd serial, s => liftEnd serial s
  | .knife, s => knifeCrossing s

/-- `s` with a choice drawn when there was more than one crossing to choose from. -/
def drawTie (cs : List Crossing) (s : State) : State := if 1 < cs.length then advanceDraws 1 s else s

/-- Takes due crossings until none is due (R2, R9, R69, R96). -/
def drainFuel : Nat → State → State
  | 0, s => s
  | fuel + 1, s =>
    match pickCrossing s.model.draws (lowestDue s) with
    | none => s
    | some c => drainFuel fuel (asEvent (takeCrossing c) (drawTie (lowestDue s) s))

/-- A bound on the crossings of one step: those of the records and the splice lifts that are held, and one for each count up to
the high-water position, since a repeat that the step creates lies at least 2,000 counts after the one before it (DEDUCED,
notes/assumptions/13.md). -/
def drainBound (s : State) : Nat := s.pos.highWater + 32 * (s.map.ring.length + s.emboss.lifts.length + 2)

/-- Takes every crossing that is due. -/
def drain (s : State) : State := drainFuel (drainBound s) s

/-- The high-water position has reached the reference window end (R9). -/
def refEndPassed (s : State) : Bool :=
  match refWindow s with
  | none => false
  | some w => w.centre + w.halfWidth ≤ s.pos.highWater

/-- SYNTH repeats one after another until a window end lies above the high-water position, each an event of its own (R9). -/
def takeRefEnds : Nat → State → State
  | 0, s => s
  | fuel + 1, s => if refEndPassed s then takeRefEnds fuel (asEvent refWindowEnd s) else s

/-! ### Inputs that arrive together with crossings (R8, R13, R15, R67) -/

/-- Whether the command waiting next is an input edge that the line position timestamps: a mark or a splice edge. -/
def inputWaits (s : State) : Bool :=
  match s.pending with
  | .referenceMark :: _ | .spliceEdge :: _ | .stationMark _ :: _ => true
  | _ => false

/-- Takes the crossings that the high-water position has reached. When an input edge waits behind them it has arrived together with
them, and either may be taken first: the free value says how many are taken before the input, none, some or all, and the others
are left until it has been taken (notes/assumptions/22.md). -/
def takeDue (s : State) : State :=
  if inputWaits s && !(dueCrossings s).isEmpty then drainFuel (Config.crossingsBeforeInput s.model.draws) (advanceDraws 1 s)
  else drain s

end Sys2Proof.Machine
end

