-- ==== Sys2Proof/Machine/Flags.lean ====
section
/-! DEFINITION. The flags and output levels that follow from the state of the blocks: EL, the attention lines, the link drive,
and whether a cursor waits. -/

namespace Sys2Proof.Machine

open Sys2Proof

/-- EL is asserted exactly while the embosser is LIFTED (R83). -/
def elAsserted (s : State) : Bool := s.emboss.state == .lifted

/-- Whether a pending set is empty. -/
def noNotices (set : PerKind Nat) : Bool := allKinds.all fun k => set.get k == 0

/-- Attention line ATNn is asserted while master n's pending set is not empty (R184). -/
def attention (m : Master) (s : State) : Bool := !noNotices (s.link.notices.get m)

/-- The part drives the link pair only while ANSWERING (Pins). -/
def drivesLink (s : State) : Bool := s.link.state == .answering

/-- Whether the nip cursor waits: no record of the ring has its serial (R28). -/
def nipWaiting (s : State) : Bool := (findRepeat s.map.nipCursor s).isNone

/-- Whether the knife cursor waits (R28, R32). -/
def knifeWaiting (s : State) : Bool := (findRepeat s.map.knifeCursor s).isNone

end Sys2Proof.Machine
end

