-- ==== Sys2Proof/Machine/Operands.lean ====
section
/-! DEFINITION. Operand forms on the link: whole numbers and signed numbers as bytes, most significant first (R192), the
request index with codes, permitted roles and payload lengths, and the payload of each request, written and read. -/

namespace Sys2Proof.Machine

open Sys2Proof

/-! ### Numbers as bytes -/

/-- The `k` bytes of `n` modulo 256^k, most significant first (R192). -/
def bytesOf : Nat → Nat → List Byte
  | 0, _ => []
  | k + 1, n => BitVec.ofNat 8 (n / 256 ^ k) :: bytesOf k n

/-- The `k` bytes of a signed number in two's complement (R192). -/
def signedBytes (k : Nat) (x : Int) : List Byte := bytesOf k (x % (256 ^ k : Nat)).toNat

/-- The number that bytes spell, most significant first. -/
def natOfBytes (bs : List Byte) : Nat := bs.foldl (fun n b => n * 256 + b.toNat) 0

/-- The number in the `k` bytes at an offset of a payload. -/
def fieldAt (offset k : Nat) (payload : List Byte) : Nat := natOfBytes ((payload.drop offset).take k)

/-! ### The request index (R180) -/

/-- The requests of the request index. -/
inductive RequestName where
  | status
  | readRepeat
  | readRolls
  | readNotices
  | setNoticeMask
  | claim
  | release
  | setGeometry
  | loadJob
  | armJob
  | endJob
  | lineReset
  | setBroadcast
  | takeTrims
  | teachOffsets
  | embossHold
  | embossRelease
  | startRoll
  | cutFault
  | reseedSampling
  | setSeedLock
  | readSamplePlan
  | shadeSample
  | defectMark
  | closeBatch
  | retireBatch
  | readBatches
  | takeLabel
  | labelApplied
  | relabel
  | setRunSpeed
  | setClaimGate
  deriving DecidableEq, Repr

/-- Every request of the index, in its order. -/
def allRequests : List RequestName :=
  [.status, .readRepeat, .readRolls, .readNotices, .setNoticeMask, .claim, .release, .setGeometry, .loadJob, .armJob, .endJob,
   .lineReset, .setBroadcast, .takeTrims, .teachOffsets, .embossHold, .embossRelease, .startRoll, .cutFault, .reseedSampling, .setSeedLock, .readSamplePlan,
   .shadeSample, .defectMark, .closeBatch, .retireBatch, .readBatches, .takeLabel, .labelApplied, .relabel, .setRunSpeed, .setClaimGate]

/-- The request code. -/
def requestCode : RequestName → Byte
  | .status => 0x01
  | .readRepeat => 0x02
  | .readRolls => 0x03
  | .readNotices => 0x04
  | .setNoticeMask => 0x05
  | .claim => 0x06
  | .release => 0x07
  | .setGeometry => 0x10
  | .loadJob => 0x11
  | .armJob => 0x12
  | .endJob => 0x13
  | .lineReset => 0x14
  | .setBroadcast => 0x15
  | .takeTrims => 0x20
  | .teachOffsets => 0x21
  | .embossHold => 0x28
  | .embossRelease => 0x29
  | .startRoll => 0x30
  | .cutFault => 0x31
  | .reseedSampling => 0x38
  | .setSeedLock => 0x39
  | .readSamplePlan => 0x3A
  | .shadeSample => 0x3B
  | .defectMark => 0x3C
  | .closeBatch => 0x3D
  | .retireBatch => 0x3E
  | .readBatches => 0x3F
  | .takeLabel => 0x48
  | .labelApplied => 0x49
  | .relabel => 0x4A
  | .setRunSpeed => 0x50
  | .setClaimGate => 0x51

/-- The request with a code, none when the code is not in the index. -/
def requestOfCode (code : Byte) : Option RequestName := allRequests.find? fun n => requestCode n == code

/-- Whether a role may send a request (the request index, Permitted roles). -/
def permitted (n : RequestName) (m : Master) : Bool :=
  match n with
  | .status => true
  | .readRepeat => true
  | .readRolls => true
  | .readNotices => true
  | .setNoticeMask => true
  | .claim => true
  | .release => true
  | .setGeometry => m == .line
  | .loadJob => m == .line
  | .armJob => m == .line
  | .endJob => m == .line
  | .lineReset => m == .line
  | .setBroadcast => m == .line
  | .takeTrims => m == .drive
  | .teachOffsets => m == .line
  | .embossHold => m == .line
  | .embossRelease => m == .line
  | .startRoll => m == .line || m == .rewind
  | .cutFault => m == .rewind
  | .reseedSampling => m == .line
  | .setSeedLock => m == .line
  | .readSamplePlan => m == .quality
  | .shadeSample => m == .quality
  | .defectMark => m == .quality
  | .closeBatch => m == .plant
  | .retireBatch => m == .plant
  | .readBatches => m == .plant
  | .takeLabel => m == .label
  | .labelApplied => m == .label
  | .relabel => m == .label || m == .plant
  | .setRunSpeed => m == .line
  | .setClaimGate => m == .line

/-- The payload lengths that the request index allows. -/
def lengthAllowed (n : RequestName) (len : Nat) : Bool :=
  match n with
  | .status => len == 2
  | .readRepeat => len == 4
  | .readRolls => len == 4
  | .readNotices => len == 0
  | .setNoticeMask => len == 2
  | .claim => len == 3
  | .release => len == 0
  | .setGeometry => len == 12
  | .loadJob => 52 ≤ len && len ≤ 120
  | .armJob => len == 0
  | .endJob => len == 0
  | .lineReset => len == 0
  | .setBroadcast => len == 1
  | .takeTrims => len == 0
  | .teachOffsets => len == 0
  | .embossHold => len == 0
  | .embossRelease => len == 0
  | .startRoll => len == 1
  | .cutFault => len == 5
  | .reseedSampling => len == 0
  | .setSeedLock => len == 1
  | .readSamplePlan => len == 0
  | .shadeSample => len == 11
  | .defectMark => len == 6
  | .closeBatch => len == 2
  | .retireBatch => len == 2
  | .readBatches => len == 0
  | .takeLabel => len == 0
  | .labelApplied => len == 4
  | .relabel => len == 4
  | .setRunSpeed => len == 4
  | .setClaimGate => len == 1

/-! ### Request payloads (R192) -/

/-- The name of a request. -/
def requestName : Request → RequestName
  | .status _ => .status
  | .readRepeat _ => .readRepeat
  | .readRolls _ => .readRolls
  | .readNotices => .readNotices
  | .setNoticeMask _ => .setNoticeMask
  | .claim _ _ => .claim
  | .release => .release
  | .setGeometry _ _ _ => .setGeometry
  | .loadJob _ => .loadJob
  | .armJob => .armJob
  | .endJob => .endJob
  | .lineReset => .lineReset
  | .setBroadcast _ => .setBroadcast
  | .takeTrims => .takeTrims
  | .teachOffsets => .teachOffsets
  | .embossHold => .embossHold
  | .embossRelease => .embossRelease
  | .startRoll _ => .startRoll
  | .cutFault _ _ => .cutFault
  | .reseedSampling => .reseedSampling
  | .setSeedLock _ => .setSeedLock
  | .readSamplePlan => .readSamplePlan
  | .shadeSample _ _ _ _ _ => .shadeSample
  | .defectMark _ _ _ => .defectMark
  | .closeBatch _ => .closeBatch
  | .retireBatch _ => .retireBatch
  | .readBatches => .readBatches
  | .takeLabel => .takeLabel
  | .labelApplied _ => .labelApplied
  | .relabel _ => .relabel
  | .setRunSpeed _ _ => .setRunSpeed
  | .setClaimGate _ => .setClaimGate

/-- The payload of a request: its fields in the order of the index, in the widths the lengths imply (R192). -/
def requestPayload : Request → List Byte
  | .status mask => bytesOf 2 mask.toNat
  | .readRepeat serial => bytesOf 4 serial.toNat
  | .readRolls rollId => bytesOf 4 rollId.toNat
  | .readNotices => []
  | .setNoticeMask mask => bytesOf 2 mask.toNat
  | .claim level speed => bytesOf 1 level.toNat ++ bytesOf 2 speed.toNat
  | .release => []
  | .setGeometry dCut dSp eNip => bytesOf 4 dCut.toNat ++ bytesOf 4 dSp.toNat ++ bytesOf 4 eNip.toNat
  | .loadJob payload => payload
  | .armJob => []
  | .endJob => []
  | .lineReset => []
  | .setBroadcast setting => bytesOf 1 setting.toNat
  | .takeTrims => []
  | .teachOffsets => []
  | .embossHold => []
  | .embossRelease => []
  | .startRoll mask => bytesOf 1 mask.toNat
  | .cutFault lane rollId => bytesOf 1 lane.toNat ++ bytesOf 4 rollId.toNat
  | .reseedSampling => []
  | .setSeedLock setting => bytesOf 1 setting.toNat
  | .readSamplePlan => []
  | .shadeSample serial lane lightness redGreen yellowBlue => bytesOf 4 serial.toNat ++ bytesOf 1 lane.toNat ++ bytesOf 2 lightness.toNat ++ bytesOf 2 redGreen.toNat ++ bytesOf 2 yellowBlue.toNat
  | .defectMark serial lane count => bytesOf 4 serial.toNat ++ bytesOf 1 lane.toNat ++ bytesOf 1 count.toNat
  | .closeBatch number => bytesOf 2 number.toNat
  | .retireBatch number => bytesOf 2 number.toNat
  | .readBatches => []
  | .takeLabel => []
  | .labelApplied rollId => bytesOf 4 rollId.toNat
  | .relabel rollId => bytesOf 4 rollId.toNat
  | .setRunSpeed run crawl => bytesOf 2 run.toNat ++ bytesOf 2 crawl.toNat
  | .setClaimGate setting => bytesOf 1 setting.toNat

/-- The request that a payload of an allowed length carries. -/
def readRequest (n : RequestName) (payload : List Byte) : Request :=
  match n with
  | .status => .status (BitVec.ofNat 16 (fieldAt 0 2 payload))
  | .readRepeat => .readRepeat (BitVec.ofNat 32 (fieldAt 0 4 payload))
  | .readRolls => .readRolls (BitVec.ofNat 32 (fieldAt 0 4 payload))
  | .readNotices => .readNotices
  | .setNoticeMask => .setNoticeMask (BitVec.ofNat 16 (fieldAt 0 2 payload))
  | .claim => .claim (BitVec.ofNat 8 (fieldAt 0 1 payload)) (BitVec.ofNat 16 (fieldAt 1 2 payload))
  | .release => .release
  | .setGeometry => .setGeometry (BitVec.ofNat 32 (fieldAt 0 4 payload)) (BitVec.ofNat 32 (fieldAt 4 4 payload)) (BitVec.ofNat 32 (fieldAt 8 4 payload))
  | .loadJob => .loadJob payload
  | .armJob => .armJob
  | .endJob => .endJob
  | .lineReset => .lineReset
  | .setBroadcast => .setBroadcast (BitVec.ofNat 8 (fieldAt 0 1 payload))
  | .takeTrims => .takeTrims
  | .teachOffsets => .teachOffsets
  | .embossHold => .embossHold
  | .embossRelease => .embossRelease
  | .startRoll => .startRoll (BitVec.ofNat 8 (fieldAt 0 1 payload))
  | .cutFault => .cutFault (BitVec.ofNat 8 (fieldAt 0 1 payload)) (BitVec.ofNat 32 (fieldAt 1 4 payload))
  | .reseedSampling => .reseedSampling
  | .setSeedLock => .setSeedLock (BitVec.ofNat 8 (fieldAt 0 1 payload))
  | .readSamplePlan => .readSamplePlan
  | .shadeSample => .shadeSample (BitVec.ofNat 32 (fieldAt 0 4 payload)) (BitVec.ofNat 8 (fieldAt 4 1 payload)) (BitVec.ofNat 16 (fieldAt 5 2 payload)) (BitVec.ofNat 16 (fieldAt 7 2 payload)) (BitVec.ofNat 16 (fieldAt 9 2 payload))
  | .defectMark => .defectMark (BitVec.ofNat 32 (fieldAt 0 4 payload)) (BitVec.ofNat 8 (fieldAt 4 1 payload)) (BitVec.ofNat 8 (fieldAt 5 1 payload))
  | .closeBatch => .closeBatch (BitVec.ofNat 16 (fieldAt 0 2 payload))
  | .retireBatch => .retireBatch (BitVec.ofNat 16 (fieldAt 0 2 payload))
  | .readBatches => .readBatches
  | .takeLabel => .takeLabel
  | .labelApplied => .labelApplied (BitVec.ofNat 32 (fieldAt 0 4 payload))
  | .relabel => .relabel (BitVec.ofNat 32 (fieldAt 0 4 payload))
  | .setRunSpeed => .setRunSpeed (BitVec.ofNat 16 (fieldAt 0 2 payload)) (BitVec.ofNat 16 (fieldAt 2 2 payload))
  | .setClaimGate => .setClaimGate (BitVec.ofNat 8 (fieldAt 0 1 payload))

/-- Whether a request's payload has a length its name allows: always so, but for Load Job (R180 check 3). -/
def requestLengthOk (r : Request) : Bool := lengthAllowed (requestName r) (requestPayload r).length

end Sys2Proof.Machine
end

