-- ==== Sys2Proof/Machine/Layouts.lean ====
section
/-! DEFINITION. The layouts of answers on the link: R195 to R197, and for every other answer the values its owning rule names,
in its order, each sent as R193 gives (the readings of R193 that the manual leaves open are in notes/assumptions/9.md). -/

namespace Sys2Proof.Machine

open Sys2Proof

/-! ### The forms of R193 -/

/-- A flag or a setting of two values. -/
def flagByte (b : Bool) : List Byte := [if b then 1 else 0]

/-- A value named from a list: one byte. -/
def codeByte (n : Nat) : List Byte := bytesOf 1 n

/-- A value of `width` bytes that may be absent: a presence byte, then the value, sent as 0 when absent. -/
def optBytes (width : Nat) : Option (List Byte) → List Byte
  | none => 0 :: List.replicate width 0
  | some v => 1 :: v

/-- A list: two bytes giving the number of its entries, then the entries. -/
def listBytes (entries : List (List Byte)) : List Byte := bytesOf 2 entries.length ++ entries.flatten

/-- A number with bit `key x` set for each `x` of a list that `p` selects. -/
def bitSum {α : Type} (key : α → Nat) (p : α → Bool) (xs : List α) : Nat := (xs.map fun x => if p x then 2 ^ key x else 0).sum

/-- A set of lanes: bit x for lane x. -/
def laneSetByte (p : Lane → Bool) : List Byte := bytesOf 1 (bitSum laneNumber p allLanes)

/-- A pattern code: 12 bytes, padded with 0x00. -/
def patternBytes (p : List Byte) : List Byte := (p ++ List.replicate 12 0).take 12

/-- Three shade components of `k` signed bytes each. -/
def shadeBytes (k : Nat) (v : Shade) : List Byte := signedBytes k v.lightness ++ signedBytes k v.redGreen ++ signedBytes k v.yellowBlue

/-- A claim slot: its place in the fixed order. -/
def slotByte (k : Slot) : List Byte := bytesOf 1 (slotPlace k)

/-! ### Codes of named values, numbered from 1 in the order the manual first names them (R193), or as R195 to R197 give -/

/-- Reference states (the reference station record). -/
def refStateCode : RefState → Nat
  | .idle => 1 | .seeking => 2 | .locked => 3 | .coasting => 4 | .lost => 5

/-- Station states (R197). -/
def stationStateCode : StationState → Nat
  | .off => 0 | .armed => 1 | .tracking => 2 | .holding => 3 | .lost => 4

/-- Embosser states (Embossing, the state table). -/
def embossStateCode : EmbossState → Nat
  | .none => 1 | .lifted => 2 | .settling => 3 | .engaged => 4

/-- Splice lift states (Splice lifts). -/
def liftStateCode : LiftState → Nat
  | .pending => 1 | .inForce => 2

/-- Lane states (the lane record). -/
def laneStateCode : LaneState → Nat
  | .idle => 1 | .winding => 2

/-- Kinds of the knife registration (the roll unit's table). -/
def knifeKindCode : KnifeKind → Nat
  | .successorBoundary => 1 | .finalPosition => 2

/-- Roll kinds (R196). -/
def rollKindCode : RollKind → Nat
  | .standard => 1 | .short => 2 | .stub => 3 | .scrap => 4 | .merged => 5

/-- Close reasons (R196). -/
def closeReasonCode : CloseReason → Nat
  | .jobEnd => 1 | .jobChange => 2 | .zoneStart => 3 | .zoneEnd => 4 | .length => 5 | .forced => 6 | .lineReset => 7

/-- Grades (R196). -/
def gradeCode : Grade → Nat
  | .a => 1 | .b => 2 | .hold => 3 | .ungraded => 4 | .reject => 5

/-- Label states (R108). -/
def labelStateCode : LabelState → Nat
  | .queued => 1 | .issued => 2 | .applied => 3 | .missed => 4 | .withdrawn => 5

/-- Batch states (R138), sent as a named state, OPEN 1 and CLOSED 2, and not by R193's row for a flag or a setting of two values,
which would give OPEN 1 and CLOSED 0 (DESIGN CHOICE, notes/assumptions/9.md). -/
def batchStateCode : BatchState → Nat
  | .opened => 1 | .closed => 2

/-- Claim slot states (R160). -/
def slotStateCode : SlotState → Nat
  | .none => 1 | .held => 2 | .active => 3

/-- Link states (R175). -/
def linkStateCode : LinkState → Nat
  | .listening => 1 | .receiving => 2 | .answering => 3

/-- Discard reasons (the link unit's table). -/
def discardReasonCode : DiscardReason → Nat
  | .none => 1 | .framing => 2 | .length => 3 | .crc => 4 | .address => 5 | .master => 6 | .broadcast => 7

/-- Outcomes of Teach Offsets (R79). -/
def teachOutcomeCode : TeachOutcome → Nat
  | .notInJob => 1 | .notReady => 2 | .outOfRange => 3 | .taught => 4

/-- Result codes of a repeat record (R195). -/
def resultCode : StationResult → Nat
  | .pending => 0 | .matched _ => 1 | .missed => 2 | .skipped => 3

/-- Emboss statuses of a repeat record (R195). -/
def embossStatusCode : EmbossStatus → Nat
  | .pending => 0 | .embossed => 1 | .plain => 2 | .none => 3

/-! ### Status (R182) -/

/-- Section 0: the position unit (R182, the reference station record). -/
def positionSection (s : State) : List Byte :=
  bytesOf 6 s.pos.linePos ++ bytesOf 6 s.pos.highWater ++ bytesOf 2 s.pos.speed
    ++ codeByte (refStateCode s.pos.ref.state) ++ optBytes 6 (s.pos.ref.newestStart.map (bytesOf 6))
    ++ bytesOf 1 s.pos.ref.synthRun ++ signedBytes 2 s.pos.ref.lastError ++ bytesOf 2 s.pos.ref.strays
    ++ listBytes (s.pos.splices.map (bytesOf 6)) ++ bytesOf 4 s.pos.nextSerial

/-- Section 1: the web map (R39). An extent or a cursor above 2^32 - 1 is sent modulo 2^32 (DESIGN CHOICE,
notes/assumptions/3.md). -/
def webMapSection (s : State) : List Byte :=
  bytesOf 2 s.map.ring.length ++ optBytes 4 ((oldestRepeat s).map fun r => bytesOf 4 r.serial)
    ++ optBytes 4 ((newestSerial s).map (bytesOf 4)) ++ bytesOf 4 s.map.retired ++ bytesOf 4 s.map.extent
    ++ bytesOf 4 s.map.nipCursor ++ bytesOf 4 s.map.knifeCursor ++ flagByte (nipWaiting s) ++ flagByte (knifeWaiting s)

/-- A job slot given as empty (form 1) or with its values (form 2). -/
def slotForm (width : Nat) : Option (List Byte) → List Byte
  | none => codeByte 1 ++ List.replicate width 0
  | some v => codeByte 2 ++ v

/-- Section 2: the job unit (R58). -/
def jobSection (s : State) : List Byte :=
  bytesOf 4 s.jobs.geometry.dCut ++ bytesOf 4 s.jobs.geometry.dSp ++ bytesOf 4 s.jobs.geometry.eNip
    ++ slotForm 15 (s.jobs.staged.map fun j => bytesOf 2 j.record.number ++ patternBytes j.record.pattern ++ flagByte j.armed)
    ++ slotForm 6 (s.jobs.head.map fun j => bytesOf 2 j.record.number ++ bytesOf 4 j.firstSerial)
    ++ slotForm 17 (s.jobs.tail.map fun j => bytesOf 2 j.record.number ++ bytesOf 4 j.firstSerial ++ bytesOf 4 j.lastSerial
        ++ optBytes 6 (j.finalBoundary.map (bytesOf 6)))

/-- A station cursor: a serial (form 1), waiting at a serial (form 2), or absent (form 3) (R77). -/
def cursorForm (s : State) : Option Nat → List Byte
  | none => codeByte 3 ++ List.replicate 4 0
  | some c => codeByte (if (findRepeat c s).isSome then 1 else 2) ++ bytesOf 4 c

/-- The two ends of a placed window. -/
def windowBytes (w : Window) : List Byte := signedBytes 6 (w.centre - w.halfWidth : Int) ++ bytesOf 6 (w.centre + w.halfWidth)

/-- The record of one station in Status (R77); station 7 shows its deferred miss. -/
def stationBytes (s : State) (st : Station) : List Byte :=
  let r := s.register.get st
  codeByte (stationStateCode r.state) ++ optBytes 2 (r.job.map (bytesOf 2)) ++ cursorForm s r.cursor
    ++ signedBytes 4 r.accumulator ++ signedBytes 2 r.trim ++ bytesOf 2 r.trimSeq ++ flagByte r.saturated
    ++ signedBytes 2 r.lastError ++ bytesOf 1 r.missRun ++ flagByte r.teachReady
    ++ bytesOf 2 r.matchCount ++ bytesOf 2 r.missCount ++ bytesOf 2 r.strayCount
    ++ optBytes 12 (r.window.map windowBytes) ++ (if st = .s7 then flagByte r.deferredMiss else [])

/-- Section 3: the register unit (R77). -/
def registerSection (s : State) : List Byte := allStations.flatMap (stationBytes s)

/-- An entry of the splice lift list in Status (R94). -/
def liftBytes (l : SpliceLift) : List Byte :=
  bytesOf 4 l.serial ++ signedBytes 6 l.startPos ++ bytesOf 6 l.endPos ++ codeByte (liftStateCode l.state)

/-- Section 4: the emboss unit (R94). -/
def embossSection (s : State) : List Byte :=
  codeByte (embossStateCode s.emboss.state) ++ flagByte (elAsserted s) ++ optBytes 2 (s.emboss.nipJob.map (bytesOf 2))
    ++ optBytes 3 (s.emboss.part.map fun p => bytesOf 1 p.settle ++ bytesOf 2 p.minSpeed)
    ++ bytesOf 1 s.emboss.settleCount ++ flagByte s.emboss.hold ++ flagByte (lowSpeedCause s)
    ++ listBytes (s.emboss.lifts.map liftBytes) ++ optBytes 6 (s.emboss.nipReg.map (bytesOf 6))

/-- Every accumulator of an open roll, in the order of the open roll table (R117). -/
def openRollBytes (o : OpenRoll) : List Byte :=
  optBytes 4 (o.rollId.map (bytesOf 4)) ++ optBytes 2 (o.job.map (bytesOf 2)) ++ optBytes 4 (o.firstSerial.map (bytesOf 4))
    ++ optBytes 4 (o.lastSerial.map (bytesOf 4)) ++ bytesOf 2 o.repeats ++ bytesOf 4 o.length ++ bytesOf 2 o.samples
    ++ shadeBytes 4 o.sums ++ optBytes 6 (o.minimum.map (shadeBytes 2)) ++ optBytes 6 (o.maximum.map (shadeBytes 2))
    ++ bytesOf 2 o.missed ++ bytesOf 2 o.defects ++ bytesOf 2 o.plain ++ bytesOf 2 o.excluded
    ++ flagByte o.merged ++ flagByte o.carriesPrior

/-- A lane record in full (R117). -/
def laneBytes (r : LaneRecord) : List Byte :=
  codeByte (laneStateCode r.state) ++ openRollBytes r.roll ++ flagByte r.forced ++ optBytes 4 (r.lastClosed.map (bytesOf 4))

/-- Section 5: the roll unit (R117). -/
def rollSection (s : State) : List Byte :=
  optBytes 7 (s.rolls.knifeJob.map fun k => bytesOf 2 k.number ++ laneSetByte (fun l => k.lanes.get l)
      ++ bytesOf 2 k.standardRepeats ++ bytesOf 2 k.minRepeats)
    ++ optBytes 7 (s.rolls.knifeReg.map fun k => bytesOf 6 k.position ++ codeByte (knifeKindCode k.kind))
    ++ bytesOf 4 s.rolls.nextRollId ++ bytesOf 1 s.rolls.history.length
    ++ allLanes.flatMap fun l => laneBytes (s.rolls.lanes.get l)

/-- Section 6: the shade unit (R144). A designation target above 2^32 - 1 is sent modulo 2^32 (DESIGN CHOICE,
notes/assumptions/3.md). -/
def shadeSection (s : State) : List Byte :=
  bytesOf 2 s.shade.generator.toNat ++ flagByte s.shade.seedLock ++ optBytes 4 (s.shade.target.map (bytesOf 4))
    ++ optBytes 2 (s.shade.headCounter.map (bytesOf 2)) ++ optBytes 2 (s.shade.tailCounter.map (bytesOf 2))
    ++ bytesOf 4 s.shade.nextStamp ++ bytesOf 1 s.shade.batches.length

/-- Section 7: the label unit (R157). -/
def labelSection (s : State) : List Byte :=
  bytesOf 1 s.labels.queue.length ++ listBytes (s.labels.queue.map fun r => bytesOf 4 r.rollId) ++ flagByte s.labels.claimHeld

/-- The active slot or none. -/
def activeBytes (u : SpeedUnit) : List Byte := optBytes 1 (u.active.map slotByte)

/-- A claim slot in Status (R172). -/
def slotBytes (u : SpeedUnit) (k : Slot) : List Byte :=
  codeByte (slotStateCode (slotState u k)) ++ optBytes 1 ((u.slots.get k).map fun c => bytesOf 1 c.level)
    ++ optBytes 2 ((u.slots.get k).map fun c => bytesOf 2 c.speed) ++ flagByte (eligible u k)

/-- Section 8: the speed authority (R172). -/
def speedSection (s : State) : List Byte :=
  bytesOf 2 s.speed.granted ++ bytesOf 2 s.speed.runSpeed ++ bytesOf 2 s.speed.crawlSpeed ++ flagByte s.speed.gateOpen
    ++ activeBytes s.speed ++ allSlots.flatMap (slotBytes s.speed)

/-- A notice mask as 16 bits, bit n for kind n. -/
def maskNumber (mask : PerKind Bool) : Nat := bitSum kindNumber mask.get allKinds

/-- A pending set: each pending kind in ascending number, with its count (R185). -/
def pendingBytes (set : PerKind Nat) : List Byte :=
  listBytes ((allKinds.filter fun k => set.get k != 0).map fun k => bytesOf 1 (kindNumber k) ++ bytesOf 1 (set.get k))

/-- A master's notices in Status (R184). -/
def masterBytes (s : State) (m : Master) : List Byte :=
  bytesOf 2 (maskNumber (s.link.masks.get m)) ++ pendingBytes (s.link.notices.get m) ++ flagByte (attention m s)

/-- Section 9: the link unit (R184). -/
def linkSection (s : State) : List Byte :=
  s.link.address :: flagByte s.link.broadcast ++ codeByte (linkStateCode s.link.state) ++ bytesOf 2 s.link.discards
    ++ codeByte (discardReasonCode s.link.lastReason) ++ allMasters.flatMap (masterBytes s)

/-- The section of a bit of the section mask (R182). -/
def sectionBytes (s : State) (bit : Nat) : List Byte :=
  match bit with
  | 0 => positionSection s
  | 1 => webMapSection s
  | 2 => jobSection s
  | 3 => registerSection s
  | 4 => embossSection s
  | 5 => rollSection s
  | 6 => shadeSection s
  | 7 => labelSection s
  | 8 => speedSection s
  | _ => linkSection s

/-- The selected sections in ascending bit order, each preceded by its bit number (R182). -/
def statusBytes (mask : BitVec 16) (s : State) : List Byte :=
  (List.range 10).flatMap fun i => if mask.getLsbD i then bytesOf 1 i ++ sectionBytes s i else []

/-! ### Records -/

/-- A station result of a repeat record (R195). -/
def resultBytes (r : StationResult) : List Byte :=
  codeByte (resultCode r) ++ signedBytes 2 (match r with | .matched e => e | .pending | .missed | .skipped => 0)

/-- A lane entry of a repeat record (R195). -/
def laneEntryBytes (e : LaneEntry) : List Byte :=
  bytesOf 1 (laneNumber e.lane)
    ++ bytesOf 1 (match e.sample with | none => 0 | some v => if v.clamped then 3 else 1)
    ++ shadeBytes 2 ((e.sample.map (·.shade)).getD Shade.zero) ++ bytesOf 1 e.defects

/-- The flags byte of a repeat record (R195). -/
def repeatFlags (r : Repeat) : Nat :=
  oneIf (r.origin == .synth) + 2 * oneIf r.changePoint + 4 * oneIf r.splice + 8 * oneIf r.excluded + 16 * oneIf r.designated
    + 32 * oneIf r.length.isSome

/-- A repeat record as Read Repeat returns it (R195). -/
def repeatBytes (r : Repeat) : List Byte :=
  bytesOf 4 r.serial ++ bytesOf 6 r.start ++ bytesOf 4 (r.length.getD 0) ++ bytesOf 2 r.job ++ bytesOf 1 (repeatFlags r)
    ++ resultBytes r.refResult ++ (allStations.flatMap fun st => resultBytes (r.results.get st))
    ++ codeByte (embossStatusCode r.emboss) ++ bytesOf 1 r.lanes.length ++ r.lanes.flatMap laneEntryBytes

/-- A history entry as Read Rolls returns it: every field of R108 but the entry stamp (R116). -/
def entryBytes (e : HistoryEntry) : List Byte :=
  bytesOf 4 e.rollId ++ bytesOf 1 (laneNumber e.lane) ++ bytesOf 2 e.job ++ bytesOf 4 e.firstSerial ++ bytesOf 4 e.lastSerial
    ++ bytesOf 2 e.repeats ++ bytesOf 4 e.lengthMm ++ codeByte (rollKindCode e.kind) ++ codeByte (closeReasonCode e.reason)
    ++ bytesOf 2 e.samples ++ shadeBytes 4 e.sums ++ optBytes 6 (e.minimum.map (shadeBytes 2))
    ++ optBytes 6 (e.maximum.map (shadeBytes 2)) ++ bytesOf 2 e.missed ++ bytesOf 2 e.defects ++ bytesOf 2 e.plain
    ++ bytesOf 2 e.excluded ++ flagByte e.carriesPrior ++ codeByte (gradeCode e.grade) ++ optBytes 6 (e.means.map (shadeBytes 2))
    ++ optBytes 2 (e.spread.map (bytesOf 2)) ++ optBytes 2 (e.batch.map (bytesOf 2)) ++ codeByte (labelStateCode e.labelState)
    ++ patternBytes e.pattern

/-- A lane in the roll unit summary (R116). -/
def laneSummaryBytes (r : LaneRecord) : List Byte :=
  codeByte (laneStateCode r.state) ++ flagByte r.forced ++ optBytes 4 (r.lastClosed.map (bytesOf 4))
    ++ optBytes 4 (r.roll.rollId.map (bytesOf 4)) ++ bytesOf 2 r.roll.repeats

/-- The roll unit summary (R116). -/
def rollSummaryBytes (s : State) : List Byte :=
  bytesOf 1 s.rolls.history.length ++ optBytes 4 (s.rolls.history.head?.map fun e => bytesOf 4 e.rollId)
    ++ optBytes 4 (s.rolls.history.getLast?.map fun e => bytesOf 4 e.rollId)
    ++ optBytes 2 (s.rolls.knifeJob.map fun k => bytesOf 2 k.number)
    ++ allLanes.flatMap fun l => laneSummaryBytes (s.rolls.lanes.get l)

/-- A label record (R196). -/
def labelBytes (r : LabelRecord) : List Byte :=
  bytesOf 4 r.rollId ++ bytesOf 2 r.job ++ patternBytes r.pattern ++ bytesOf 1 (laneNumber r.lane) ++ codeByte (rollKindCode r.kind)
    ++ codeByte (closeReasonCode r.reason) ++ codeByte (gradeCode r.grade) ++ bytesOf 2 (r.batch.getD 0) ++ bytesOf 2 r.repeats
    ++ bytesOf 4 r.lengthMm ++ optBytes 6 (r.means.map (shadeBytes 2)) ++ bytesOf 2 r.defects ++ bytesOf 2 r.plain
    ++ codeByte (match r.issue with | .first => 0 | .reissue => 1)

/-- The Take Trims entry of a station (R197). -/
def trimEntryBytes (st : Station) (r : StationRecord) : List Byte :=
  bytesOf 1 (stationNumber st) ++ codeByte (stationStateCode r.state) ++ signedBytes 2 r.trim ++ bytesOf 2 r.trimSeq
    ++ flagByte r.saturated

/-- The stations that are not OFF, in ascending order. -/
def activeStations (s : State) : List Station := allStations.filter fun st => (s.register.get st).state != .off

/-- The answer of Take Trims: a count byte and the entries (R76, R197). -/
def trimsBytes (s : State) : List Byte :=
  bytesOf 1 (activeStations s).length ++ (activeStations s).flatMap fun st => trimEntryBytes st (s.register.get st)

/-- An entry of the answer of Teach Offsets: the outcome before the request and the offset after it (R79). -/
def teachEntryBytes (before after : State) (st : Station) : List Byte :=
  bytesOf 1 (stationNumber st) ++ codeByte (teachOutcomeCode (teachOutcome st before))
    ++ optBytes 4 ((stationOffset st after).map (bytesOf 4))

/-- A batch entry in Read Batches (R143, R138). -/
def batchBytes (b : BatchEntry) : List Byte :=
  bytesOf 2 b.number ++ bytesOf 2 b.job ++ shadeBytes 2 b.centre ++ bytesOf 2 b.rolls ++ bytesOf 4 b.totalMm
    ++ codeByte (batchStateCode b.state) ++ bytesOf 4 b.stamp

/-- The answer of Read Batches: the free places, and the entries in ascending order of stamp (R143). -/
def batchesBytes (s : State) : List Byte :=
  bytesOf 1 (Config.batchMax - s.shade.batches.length) ++ listBytes ((sortBy (·.stamp) s.shade.batches).map batchBytes)

/-- An entry of the sample plan (R125). -/
def planEntryBytes (r : Repeat) : List Byte :=
  bytesOf 4 r.serial ++ bytesOf 6 r.start ++ bytesOf 2 r.job
    ++ laneSetByte fun l => ((r.laneEntry l).bind (·.sample)).isSome

/-- The designation target when it lies ahead of the newest repeat created (R125). A target above 2^32 - 1 is always ahead, and
is sent modulo 2^32 (DESIGN CHOICE, notes/assumptions/3.md). -/
def targetAhead (s : State) : Option Nat := s.shade.target.filter fun t => (newestSerial s).getD s.map.retired < t

/-- The answer of Read Sample Plan (R125). -/
def planBytes (s : State) : List Byte :=
  listBytes ((s.map.ring.filter (·.designated)).map planEntryBytes) ++ optBytes 4 ((targetAhead s).map (bytesOf 4))

end Sys2Proof.Machine
end

