-- ==== Sys2Proof/Machine/Jobs.lean ====
section
/-! DEFINITION. Jobs: Set Geometry, the job record read and validated, Arm Job with the job check, End Job and Line Reset; and
device reset with its release. -/

namespace Sys2Proof.Machine

open Sys2Proof

/-! ### Set Geometry (R41) -/

/-- Whether a job is armed or in the path (R41). -/
def pathInUse (s : State) : Bool := s.jobs.head.isSome || s.jobs.tail.isSome || (armedJob s).isSome

/-- Whether three distances are a valid geometry (R41). -/
def validGeometry (g : Geometry) : Bool :=
  20000 ≤ g.dCut && g.dCut ≤ 4000000 && g.dSp ≤ 2000000 && g.eNip ≤ 4000000 && g.eNip < g.dCut

/-! ### The job record (R42, R194) -/

/-- A job record as it stands in a payload, before validation: every field by its number. -/
structure RawJob where
  number : Nat
  pattern : List Byte
  length : Nat
  halfWindow : Nat
  missLimit : Nat
  laneMask : BitVec 8
  targetMm : Nat
  cutPhase : Nat
  minRepeats : Nat
  excludeBefore : Nat
  excludeAfter : Nat
  embossByte : Nat
  registerMinSpeed : Nat
  recoverySpeed : Nat
  batchTolerance : Nat
  spreadLimit : Nat
  minSamples : Nat
  sampleInterval : Nat
  defectLimit : Nat
  batchBase : Nat
  stations : List StationEntry
  emboss : EmbossFields
  deriving DecidableEq, Repr

/-- The station count byte of a Load Job payload (R194). -/
def stationCount (p : List Byte) : Nat := fieldAt 19 1 p

/-- Whether the emboss-present byte counts as yes: it is 1 (R194). -/
def embossPresent (p : List Byte) : Bool := fieldAt 29 1 p == 1

/-- The payload length that agrees with the station count and the emboss-present byte (R194, the request index). -/
def agreedLength (p : List Byte) : Nat := 43 + 9 * stationCount p + (if embossPresent p then 5 else 0)

/-- Whether a Load Job payload agrees with itself: 1 to 8 stations, and the length that follows (R43). -/
def jobLengthAgrees (p : List Byte) : Bool := 1 ≤ stationCount p && stationCount p ≤ 8 && p.length == agreedLength p

/-- The station entry at an index of a payload (R194). -/
def rawEntry (p : List Byte) (i : Nat) : StationEntry :=
  { station := fieldAt (43 + 9 * i) 1 p, offset := fieldAt (44 + 9 * i) 4 p, gain := fieldAt (48 + 9 * i) 1 p,
    deadband := fieldAt (49 + 9 * i) 1 p, trimLimit := fieldAt (50 + 9 * i) 2 p }

/-- The fields of a Load Job payload (R194), the station entries in ascending station order. -/
def rawJob (p : List Byte) : RawJob :=
  let at_ := 43 + 9 * stationCount p
  { number := fieldAt 0 2 p, pattern := (p.drop 2).take 12, length := fieldAt 14 2 p, halfWindow := fieldAt 16 2 p,
    missLimit := fieldAt 18 1 p, laneMask := BitVec.ofNat 8 (fieldAt 20 1 p), targetMm := fieldAt 21 2 p,
    cutPhase := fieldAt 23 2 p, minRepeats := fieldAt 25 2 p, excludeBefore := fieldAt 27 1 p, excludeAfter := fieldAt 28 1 p,
    embossByte := fieldAt 29 1 p, registerMinSpeed := fieldAt 30 2 p, recoverySpeed := fieldAt 32 2 p,
    batchTolerance := fieldAt 34 2 p, spreadLimit := fieldAt 36 2 p, minSamples := fieldAt 38 1 p,
    sampleInterval := fieldAt 39 1 p, defectLimit := fieldAt 40 1 p, batchBase := fieldAt 41 2 p,
    stations := sortBy (·.station) ((List.range (stationCount p)).map (rawEntry p)),
    emboss := { settle := fieldAt at_ 1 p, lead := fieldAt (at_ + 1) 2 p, minSpeed := fieldAt (at_ + 3) 2 p } }

/-- Whether `n` lies from `lo` to `hi`. -/
def within (lo hi n : Nat) : Bool := lo ≤ n && n ≤ hi

/-- The characters of a pattern field: the bytes up to the first 0x00 (R194). -/
def patternChars (bs : List Byte) : List Byte := bs.takeWhile fun b => b != 0

/-- Whether a pattern field is valid: 1 to 12 characters from 0x20 to 0x7E, then 0x00 alone (field 2, R194). -/
def validPattern (bs : List Byte) : Bool :=
  patternChars bs != [] && (patternChars bs).all (fun b => within 0x20 0x7E b.toNat)
    && (bs.drop (patternChars bs).length).all fun b => b == 0

/-- Whether a list of numbers has no repeats. -/
def distinct : List Nat → Bool
  | [] => true
  | x :: xs => !xs.contains x && distinct xs

/-- Whether the station list is valid (field 6). -/
def validStations (r : RawJob) : Bool :=
  let ns := r.stations.map (·.station)
  ns.all (fun n => n ≤ 7) && distinct ns && ns.contains 0 && (!ns.contains 7 || r.embossByte == 1)

/-- The first station whose entry fails a check, for fields 7 to 10. -/
def failingStation (p : StationEntry → Bool) (r : RawJob) : Option Nat := (r.stations.find? fun e => !p e).map (·.station)

/-- A field of the record that fails its check: its number and, for fields 7 to 10, its station (R42). -/
structure BadField where
  field : Nat
  station : Option Nat
  deriving DecidableEq, Repr

/-- A check of one field that names no station. -/
def checkField (field : Nat) (good : Bool) : Option BadField := if good then none else some { field := field, station := none }

/-- A check of a per-entry field, made for each station entry in ascending station order (R42). -/
def checkEntries (field : Nat) (p : StationEntry → Bool) (r : RawJob) : Option BadField :=
  (failingStation p r).map fun st => { field := field, station := some st }

/-- The checks of R42 in table order, each none when the field is valid. -/
def fieldChecks (r : RawJob) : List (Option BadField) :=
  let nRoll := standardRepeats r.targetMm r.length
  let embosses := r.embossByte == 1
  [ checkField 1 (within 1 65535 r.number), checkField 2 (validPattern r.pattern), checkField 3 (within 2000 30000 r.length),
    checkField 4 (within 50 2000 r.halfWindow && 4 * r.halfWindow < r.length), checkField 5 (within 2 8 r.missLimit),
    checkField 6 (validStations r),
    checkEntries 7 (fun e => if e.station = 0 then e.offset == 0 else within 0 3999999 e.offset) r,
    checkEntries 8 (fun e => within 0 255 e.gain) r, checkEntries 9 (fun e => within 0 100 e.deadband) r,
    checkEntries 10 (fun e => within 1 2000 e.trimLimit) r,
    checkField 11 (within 1 63 r.laneMask.toNat), checkField 12 (within 5000 33000 r.targetMm && within 2 1000 nRoll),
    checkField 13 (r.cutPhase < r.length), checkField 14 (within 1 (nRoll - 1) r.minRepeats), checkField 15 (within 0 2 r.excludeBefore),
    checkField 16 (within 1 4 r.excludeAfter), checkField 17 (within 0 1 r.embossByte),
    checkField 18 (!embosses || (within 0 8 r.emboss.settle && r.emboss.settle ≤ r.excludeAfter)),
    checkField 19 (!embosses || r.emboss.lead + r.halfWindow + 1 ≤ r.length), checkField 20 (!embosses || within 0 4000 r.emboss.minSpeed),
    checkField 21 (within 0 4000 r.registerMinSpeed), checkField 22 (within 0 4000 r.recoverySpeed),
    checkField 23 (within 10 500 r.batchTolerance), checkField 24 (within 10 1000 r.spreadLimit), checkField 25 (within 1 255 r.minSamples),
    checkField 26 (within 1 64 r.sampleInterval), checkField 27 (within 0 255 r.defectLimit), checkField 28 (within 1 9000 r.batchBase) ]

/-- The first field, in table order, that holds an invalid value (R42). -/
def firstBadField (r : RawJob) : Option BadField := (fieldChecks r).findSome? id

/-- The job record of a valid payload. -/
def recordOf (r : RawJob) : JobRecord :=
  { number := r.number, pattern := patternChars r.pattern, length := r.length, halfWindow := r.halfWindow, missLimit := r.missLimit,
    stations := r.stations, lanes := PerLane.tabulate fun l => r.laneMask.getLsbD (laneNumber l), targetMm := r.targetMm,
    cutPhase := r.cutPhase, minRepeats := r.minRepeats, excludeBefore := r.excludeBefore, excludeAfter := r.excludeAfter,
    emboss := if r.embossByte = 1 then some r.emboss else none, registerMinSpeed := r.registerMinSpeed,
    recoverySpeed := r.recoverySpeed, batchTolerance := r.batchTolerance, spreadLimit := r.spreadLimit, minSamples := r.minSamples,
    sampleInterval := r.sampleInterval, defectLimit := r.defectLimit, batchBase := r.batchBase }

/-- Puts a job record in the staged slot, unarmed (R43). -/
def stageJob (j : JobRecord) (s : State) : State := s.withJobs { s.jobs with staged := some { record := j, armed := false } }

/-! ### Arm Job (R36, R45, R46) -/

/-- The ring bound of a spacing job against the repeat length and window of another: ceil((D_cut + R + W) / (R' - W')) + 2. -/
def ringBound (dCut length halfWindow spacing : Nat) : Nat := ceilDiv (dCut + length + halfWindow) spacing + 2

/-- The greater of the ring bounds of R36, the one of the job alone without a head job (R45). -/
def armBound (dCut : Nat) (head : Option JobRecord) (j : JobRecord) : Nat :=
  let own := ringBound dCut j.length j.halfWindow (j.length - j.halfWindow)
  match head with
  | none => own
  | some h => max own (ringBound dCut h.length h.halfWindow (j.length - j.halfWindow))

/-- The job check (R36). -/
def jobCheck (dCut : Nat) (head : Option JobRecord) (j : JobRecord) : Bool :=
  armBound dCut head j ≤ Config.ringMax && j.stations.all (fun e => e.offset + j.halfWindow < dCut)
    && match head with
      | none => true
      | some h => h.length / 2 + j.halfWindow ≤ j.length + h.halfWindow

/-- The outcome of Arm Job, in the order of its table (R45). -/
def judgeArm (s : State) : OutcomeCode :=
  match s.jobs.staged with
  | none => .noJob
  | some j =>
    if s.jobs.tail.isSome || j.armed then .busy
    else if (s.jobs.head.map fun h => h.record.number) = some j.record.number then .badValue
    else if jobCheck s.jobs.geometry.dCut (s.jobs.head.map (·.record)) j.record then .ok
    else .badValue

/-- The armed mark of the staged record, set or cleared. -/
def markArmed (v : Bool) (u : JobUnit) : JobUnit := { u with staged := u.staged.map fun j => { j with armed := v } }

/-- An accepted Arm Job: the staged record becomes armed and, with no head job, the reference moves to SEEKING (R46, R5). -/
def armStaged (s : State) : State :=
  let s1 := s.withJobs (markArmed true s.jobs)
  if s.jobs.head.isNone then setRef { s1.pos.ref with state := .seeking } s1 else s1

/-! ### End Job (R12, R49, R50) -/

/-- How End Job is decided, in the order of its table (R49). -/
inductive EndVerdict where
  | noJob | withdraw | busy
  | finish (h : HeadJob)
  deriving DecidableEq, Repr

/-- The verdict on End Job (R49). -/
def judgeEnd (s : State) : EndVerdict :=
  match s.jobs.head with
  | none => if (armedJob s).isSome then .withdraw else .noJob
  | some h => if s.jobs.tail.isSome then .busy else .finish h

/-- An arming in SEEKING is withdrawn: the record stays staged, unarmed, and the reference returns to IDLE (R49). -/
def withdrawArming (s : State) : State :=
  let s1 := s.withJobs (markArmed false s.jobs)
  setRef { s1.pos.ref with state := .idle } s1

/-- The position unit's part of End Job: the newest repeat is completed with the ended job's R and resolved, the reference goes
IDLE, and a REF claim is released (R12). -/
def endReference (j : JobRecord) (s : State) : State :=
  let s1 := completeNewest (fun _ => j.length) s
  let s2 := setRef { s1.pos.ref with state := .idle, newestStart := none } s1
  if s.pos.ref.state = .lost then setSlot .ref none s2 else s2

/-- The final boundary of a job ended now: its newest repeat's start plus its R (R50). -/
def finalBoundaryOf (j : JobRecord) (s : State) : Nat := ((s.map.ring.getLast?.map (·.start)).getD 0) + j.length

/-- The job unit's part of End Job: the head job becomes the tail job with its last serial and final boundary, and an arming is
withdrawn (R50). -/
def headToTail (h : HeadJob) (s : State) : State :=
  let tail : TailJob :=
    { record := h.record, firstSerial := h.firstSerial, lastSerial := (newestSerial s).getD 0,
      finalBoundary := some (finalBoundaryOf h.record s) }
  (s.withJobs { markArmed false s.jobs with head := none, tail := some tail }).withShade (shadeAtEndJob s.shade)

/-- End Job on a head job with no tail job (R50): the position unit completes and resolves the newest repeat, the job moves to
the tail slot, and the roll unit places the final knife position. -/
def endHead (h : HeadJob) (s : State) : State := restKnife (headToTail h (endReference h.record s))

/-! ### Line Reset (R54) -/

/-- The web map with its records discarded (R37). -/
def emptyMap : WebMap := { ring := [], extent := 0, retired := 0, nipCursor := 1, knifeCursor := 1 }

/-- Line Reset, its six steps in order (R54, R19, R37, R81, R95, R118, R145, R150, R173). -/
def lineReset (s : State) : State :=
  let s1 := allLanes.foldl closeAtLineReset s
  let s2 := s1.withMap emptyMap
  let s3 := s2.withPos { s2.pos with ref := RefRecord.reset, nextSerial := 1, splices := [], speed := 0 }
  let s4 := (s3.withJobs { markArmed false s3.jobs with head := none, tail := none }).withShade (shadeAtLineReset s3.shade)
  let s5 := s4.withRegister (PerStation.tabulate fun _ => StationRecord.off)
  let s6 := (if s5.emboss.state = .none then s5 else noteEmbossMove s5).withEmboss EmbossUnit.reset
  let s7 := lanesIdle (s6.withRolls { s6.rolls with knifeReg := none })
  let s8 := s7.withLabels { s7.labels with claimHeld := false }
  s8.withSpeed (releaseInternal s8.speed)

/-! ### Device reset (R190, R191) -/

/-- The link address of the strap levels (R177). -/
def strapAddress (adr0 adr1 adr2 : Bool) : Byte := BitVec.ofNat 8 (0x40 + oneIf adr0 + 2 * oneIf adr1 + 4 * oneIf adr2)

/-- Device reset is asserted: every block takes its device-reset values and every output is released; the link address is
read again only at the release, and the model's own fields and the queue stay (R190). -/
def assertReset (s : State) : State :=
  { State.reset with
    link := { State.reset.link with address := s.link.address }
    pins := { State.reset.pins with resetLow := true }
    model := s.model
    pending := s.pending }

/-- Device reset is released: the straps are read, the interval timer starts and the link unit listens (R191). -/
def releaseReset (adr0 adr1 adr2 : Bool) (s : State) : State :=
  ((s.withPins { s.pins with resetLow := false }).withPos { s.pos with intervalStart := s.pos.highWater }).withLink
    { s.link with address := strapAddress adr0 adr1 adr2, state := .listening }

end Sys2Proof.Machine
end

