-- ==== Sys2Proof/Machine/Requests.lean ====
section
/-! DEFINITION. What the owning block does with each request at the moment it is taken, and what it answers (R180): one
definition for each request of the request index. -/

namespace Sys2Proof.Machine

open Sys2Proof

/-- An answer OK with its values. -/
def okAnswer (values : List Byte) : Answer := { outcome := .ok, values := values }

/-- A refusal that reports no values. -/
def refusal (code : OutcomeCode) : Answer := { outcome := code, values := [] }

/-! ### The link unit's requests -/

/-- Status: a mask of 0 or with a bit above 9 is BAD_VALUE, otherwise the selected sections (R182). -/
def serveStatus (mask : BitVec 16) (s : State) : State × Answer :=
  if mask.toNat = 0 ∨ 1024 ≤ mask.toNat then (s, refusal .badValue) else (s, okAnswer (statusBytes mask s))

/-- Read Notices: the sender's pending set, which becomes empty (R185). -/
def serveReadNotices (m : Master) (s : State) : State × Answer :=
  (s.withLink { s.link with notices := s.link.notices.set m (PerKind.tabulate fun _ => 0) },
   okAnswer (pendingBytes (s.link.notices.get m)))

/-- The mask whose kinds are the bits of a 16-bit mask (R186). -/
def maskOf (mask : BitVec 16) : PerKind Bool := PerKind.tabulate fun k => mask.getLsbD (kindNumber k)

/-- A pending set with the kinds outside a mask removed (R186). -/
def keepMasked (mask : PerKind Bool) (set : PerKind Nat) : PerKind Nat :=
  PerKind.tabulate fun k => if mask.get k then set.get k else 0

/-- Set Notice Mask: bits 14 and 15 are BAD_VALUE; the mask and the pending set are answered as they then stand (R186). -/
def serveSetNoticeMask (m : Master) (mask : BitVec 16) (s : State) : State × Answer :=
  if 16384 ≤ mask.toNat then (s, refusal .badValue)
  else
    let kept := keepMasked (maskOf mask) (s.link.notices.get m)
    (s.withLink { s.link with masks := s.link.masks.set m (maskOf mask), notices := s.link.notices.set m kept },
     okAnswer (bytesOf 2 (maskNumber (maskOf mask)) ++ pendingBytes kept))

/-- Set Broadcast (R178). -/
def serveSetBroadcast (setting : BitVec 8) (s : State) : State × Answer :=
  if 1 < setting.toNat then (s, refusal .badValue)
  else (s.withLink { s.link with broadcast := setting.toNat == 1 }, okAnswer (flagByte (setting.toNat == 1)))

/-! ### The web map's and the roll unit's reads -/

/-- Read Repeat (R34). -/
def serveReadRepeat (serial : BitVec 32) (s : State) : State × Answer :=
  match classify serial.toNat s with
  | .inRing r => (s, okAnswer (repeatBytes r))
  | .retired | .notCreated => (s, refusal .notFound)

/-- Read Rolls: the summary for roll id 0, otherwise the roll's history entry (R116). -/
def serveReadRolls (rollId : BitVec 32) (s : State) : State × Answer :=
  if rollId.toNat = 0 then (s, okAnswer (rollSummaryBytes s))
  else
    match findEntry rollId.toNat s with
    | some e => (s, okAnswer (entryBytes e))
    | none => (s, refusal .notFound)

/-! ### The speed authority's requests -/

/-- Claim: the slot's state, level and stored speed, the active slot and the granted speed (R162). -/
def serveClaim (m : Master) (level : BitVec 8) (speed : BitVec 16) (s : State) : State × Answer :=
  if badLevel level then (s, refusal .badValue)
  else
    let s1 := takeClaim m level speed s
    (s1, okAnswer (codeByte (slotStateCode (slotState s1.speed (masterSlot m))) ++ bytesOf 1 level.toNat
      ++ bytesOf 2 (clampSpeed speed) ++ activeBytes s1.speed ++ bytesOf 2 s1.speed.granted))

/-- Release: the active slot and the granted speed (R163). -/
def serveRelease (m : Master) (s : State) : State × Answer :=
  let s1 := takeRelease m s
  (s1, okAnswer (activeBytes s1.speed ++ bytesOf 2 s1.speed.granted))

/-- Set Run Speed: the two stored speeds and the granted speed (R170). -/
def serveSetRunSpeed (run crawl : BitVec 16) (s : State) : State × Answer :=
  let s1 := takeRunSpeed (clampSpeed run) (clampSpeed crawl) s
  (s1, okAnswer (bytesOf 2 s1.speed.runSpeed ++ bytesOf 2 s1.speed.crawlSpeed ++ bytesOf 2 s1.speed.granted))

/-- Set Claim Gate: 1 OPEN, 0 CLOSED, any other setting BAD_VALUE (R171). -/
def serveSetClaimGate (setting : BitVec 8) (s : State) : State × Answer :=
  if 1 < setting.toNat then (s, refusal .badValue)
  else
    let s1 := takeGate (setting.toNat == 1) s
    (s1, okAnswer (flagByte s1.speed.gateOpen ++ activeBytes s1.speed ++ bytesOf 2 s1.speed.granted))

/-! ### The job unit's requests -/

/-- Set Geometry (R41). -/
def serveSetGeometry (dCut dSp eNip : BitVec 32) (s : State) : State × Answer :=
  let g : Geometry := { dCut := dCut.toNat, dSp := dSp.toNat, eNip := eNip.toNat }
  if pathInUse s then (s, refusal .busy)
  else if validGeometry g then (s.withJobs { s.jobs with geometry := g }, okAnswer [])
  else (s, refusal .badValue)

/-- The values a BAD_VALUE of Load Job reports: the field number and, for fields 7 to 10, the station (R43;
notes/assumptions/10.md). -/
def badFieldBytes (b : BadField) : List Byte := bytesOf 1 b.field ++ optBytes 1 (b.station.map (bytesOf 1))

/-- Load Job (R43). -/
def serveLoadJob (payload : List Byte) (s : State) : State × Answer :=
  if !jobLengthAgrees payload then (s, refusal .malformed)
  else if (armedJob s).isSome then (s, refusal .busy)
  else
    match firstBadField (rawJob payload) with
    | some b => (s, { outcome := .badValue, values := badFieldBytes b })
    | none =>
      let j := recordOf (rawJob payload)
      (stageJob j s, okAnswer (bytesOf 2 j.standardRepeats))

/-- Arm Job (R45). -/
def serveArmJob (s : State) : State × Answer :=
  match judgeArm s, s.jobs.staged with
  | .ok, some j =>
    (armStaged s, okAnswer (bytesOf 2 (armBound s.jobs.geometry.dCut (s.jobs.head.map (·.record)) j.record)))
  | code, _ => (s, refusal code)

/-- End Job (R49): form 1 withdrawn, form 2 ended with the job's number, last serial and final boundary. -/
def serveEndJob (s : State) : State × Answer :=
  match judgeEnd s with
  | .noJob => (s, refusal .noJob)
  | .busy => (s, refusal .busy)
  | .withdraw => (withdrawArming s, okAnswer (slotForm 12 none))
  | .finish h =>
    (endHead h s,
     okAnswer (slotForm 12 (some (bytesOf 2 h.record.number ++ bytesOf 4 ((newestSerial s).getD 0) ++ bytesOf 6 (finalBoundaryOf h.record s)))))

/-- Line Reset: the number of rolls it closes (R54). -/
def serveLineReset (s : State) : State × Answer := (lineReset s, okAnswer (bytesOf 1 (openRollCount s)))

/-! ### The register unit's and the emboss unit's requests -/

/-- Take Trims (R76). -/
def serveTakeTrims (s : State) : State × Answer := (s, okAnswer (trimsBytes s))

/-- Teach Offsets (R79). -/
def serveTeachOffsets (s : State) : State × Answer :=
  (teachAll s, okAnswer (listBytes (allStations.map (teachEntryBytes s (teachAll s)))))

/-- Emboss Hold: the state after the request (R86). -/
def serveEmbossHold (s : State) : State × Answer :=
  (setHold true s, okAnswer (codeByte (embossStateCode (setHold true s).emboss.state)))

/-- Emboss Release: the state after the request (R86). -/
def serveEmbossRelease (s : State) : State × Answer :=
  (setHold false s, okAnswer (codeByte (embossStateCode (setHold false s).emboss.state)))

/-! ### The roll unit's requests -/

/-- The lanes of a mask byte. -/
def laneMaskOf (mask : BitVec 8) : PerLane Bool := PerLane.tabulate fun l => mask.getLsbD (laneNumber l)

/-- Start Roll: an empty mask or a lane above 5 is BAD_VALUE; the lanes whose flag is then set, and the lanes of the mask that are
IDLE (R110). -/
def serveStartRoll (mask : BitVec 8) (s : State) : State × Answer :=
  if mask.toNat = 0 ∨ 64 ≤ mask.toNat then (s, refusal .badValue)
  else
    let s1 := forceLanes (laneMaskOf mask) s
    (s1, okAnswer (laneSetByte (fun l => (s1.rolls.lanes.get l).forced)
      ++ laneSetByte fun l => (laneMaskOf mask).get l && (s1.rolls.lanes.get l).state == .idle))

/-- The values a Cut Fault's answer gives: the lane and the open roll's repeat count after the request (R112). -/
def cutFaultBytes (l : Lane) (s : State) : List Byte := bytesOf 1 (laneNumber l) ++ bytesOf 2 (s.rolls.lanes.get l).roll.repeats

/-- Cut Fault (R112 to R114). -/
def serveCutFault (lane : BitVec 8) (rollId : BitVec 32) (s : State) : State × Answer :=
  match laneOf lane.toNat with
  | none => (s, refusal .badValue)
  | some l =>
    match judgeCutFault l rollId.toNat s with
    | .stale => (s, { outcome := .stale, values := cutFaultBytes l s })
    | .tooLate => (markCarriesPrior l s, { outcome := .tooLate, values := cutFaultBytes l (markCarriesPrior l s) })
    | .merge c => (mergeBack l c s, okAnswer (cutFaultBytes l (mergeBack l c s)))

/-! ### The shade unit's requests -/

/-- Reseed Sampling: done unless the seed lock is set, with the generator value (R123). -/
def serveReseedSampling (s : State) : State × Answer :=
  if s.shade.seedLock then (s, okAnswer (flagByte false ++ bytesOf 2 s.shade.generator.toNat))
  else (s.withShade { s.shade with generator := 1023 }, okAnswer (flagByte true ++ bytesOf 2 1023))

/-- Set Seed Lock: 1 set, 0 clear, any other value BAD_VALUE (R124, the request index). -/
def serveSetSeedLock (setting : BitVec 8) (s : State) : State × Answer :=
  if 1 < setting.toNat then (s, refusal .badValue)
  else (s.withShade { s.shade with seedLock := setting.toNat == 1 }, okAnswer (flagByte (setting.toNat == 1)))

/-- Read Sample Plan (R125). -/
def serveReadSamplePlan (s : State) : State × Answer := (s, okAnswer (planBytes s))

/-- The record and lane entry that a Shade Sample or a Defect Mark names, or the code of its refusal (R126, R128). -/
def laneTarget (serial : BitVec 32) (lane : BitVec 8) (s : State) : Except OutcomeCode (Repeat × LaneEntry) :=
  match classify serial.toNat s with
  | .notCreated => .error .notFound
  | .retired => .error .late
  | .inRing r =>
    match (laneOf lane.toNat).bind fun l => r.laneEntry l with
    | none => .error .badValue
    | some e => .ok (r, e)

/-- The reading that three signed components on the link give. -/
def readingOf (lightness redGreen yellowBlue : BitVec 16) : Shade :=
  { lightness := lightness.toInt, redGreen := redGreen.toInt, yellowBlue := yellowBlue.toInt }

/-- Shade Sample: the stored components, the clamped flag and the record's designated flag (R126, R127). -/
def serveShadeSample (serial : BitVec 32) (lane : BitVec 8) (lightness redGreen yellowBlue : BitVec 16) (s : State) : State × Answer :=
  match laneTarget serial lane s with
  | .error code => (s, refusal code)
  | .ok (r, e) =>
    if e.sample.isSome then (s, refusal .duplicate)
    else
      let v := storedSample (readingOf lightness redGreen yellowBlue)
      (storeSample serial.toNat e.lane v s, okAnswer (shadeBytes 2 v.shade ++ flagByte v.clamped ++ flagByte r.designated))

/-- Defect Mark: the lane entry's defect count after the mark (R128). -/
def serveDefectMark (serial : BitVec 32) (lane count : BitVec 8) (s : State) : State × Answer :=
  match laneTarget serial lane s with
  | .error code => (s, refusal code)
  | .ok (_, e) =>
    if count.toNat = 0 ∨ 15 < count.toNat then (s, refusal .badValue)
    else (storeDefects serial.toNat e.lane count.toNat s, okAnswer (bytesOf 1 (addDefects e.defects count.toNat)))

/-- A batch entry's roll count and total length, as Close Batch and Retire Batch answer them (R139, R140). -/
def batchTotals (b : BatchEntry) : List Byte := bytesOf 2 b.rolls ++ bytesOf 4 b.totalMm

/-- Close Batch (R139). -/
def serveCloseBatch (number : BitVec 16) (s : State) : State × Answer :=
  match findBatch number.toNat s with
  | none => (s, refusal .notFound)
  | some b => (closeBatch number.toNat s, okAnswer (batchTotals b))

/-- Retire Batch (R140). -/
def serveRetireBatch (number : BitVec 16) (s : State) : State × Answer :=
  match findBatch number.toNat s with
  | none => (s, refusal .notFound)
  | some b => if b.state = .opened then (s, refusal .busy) else (retireBatch number.toNat s, okAnswer (batchTotals b))

/-- Read Batches (R143). -/
def serveReadBatches (s : State) : State × Answer := (s, okAnswer (batchesBytes s))

/-! ### The label unit's requests -/

/-- Take Label: the oldest record, with the depth after the removal; EMPTY with depth 0 on an empty queue (R152). -/
def serveTakeLabel (s : State) : State × Answer :=
  match s.labels.queue with
  | [] => (s, { outcome := .empty, values := bytesOf 1 0 })
  | r :: rest => (takeOldestLabel r rest s, okAnswer (labelBytes r ++ bytesOf 1 rest.length))

/-- Label Applied (R153). -/
def serveLabelApplied (rollId : BitVec 32) (s : State) : State × Answer :=
  match findEntry rollId.toNat s with
  | none => (s, refusal .notFound)
  | some e => if e.labelState = .issued then (setLabelState e.rollId .applied s, okAnswer []) else (s, refusal .stale)

/-- Relabel (R154). -/
def serveRelabel (rollId : BitVec 32) (s : State) : State × Answer :=
  match findEntry rollId.toNat s with
  | none => (s, refusal .notFound)
  | some e =>
    if e.labelState = .withdrawn then (s, refusal .notFound)
    else (reissueLabel e s, okAnswer (labelBytes (labelOf e .reissue)))

/-! ### The request that a frame carries -/

/-- The owning block takes a request and answers it (R180). -/
def serve (m : Master) (r : Request) (s : State) : State × Answer :=
  match r with
  | .status mask => serveStatus mask s
  | .readRepeat serial => serveReadRepeat serial s
  | .readRolls rollId => serveReadRolls rollId s
  | .readNotices => serveReadNotices m s
  | .setNoticeMask mask => serveSetNoticeMask m mask s
  | .claim level speed => serveClaim m level speed s
  | .release => serveRelease m s
  | .setGeometry dCut dSp eNip => serveSetGeometry dCut dSp eNip s
  | .loadJob payload => serveLoadJob payload s
  | .armJob => serveArmJob s
  | .endJob => serveEndJob s
  | .lineReset => serveLineReset s
  | .setBroadcast setting => serveSetBroadcast setting s
  | .takeTrims => serveTakeTrims s
  | .teachOffsets => serveTeachOffsets s
  | .embossHold => serveEmbossHold s
  | .embossRelease => serveEmbossRelease s
  | .startRoll mask => serveStartRoll mask s
  | .cutFault lane rollId => serveCutFault lane rollId s
  | .reseedSampling => serveReseedSampling s
  | .setSeedLock setting => serveSetSeedLock setting s
  | .readSamplePlan => serveReadSamplePlan s
  | .shadeSample serial lane l a b => serveShadeSample serial lane l a b s
  | .defectMark serial lane count => serveDefectMark serial lane count s
  | .closeBatch number => serveCloseBatch number s
  | .retireBatch number => serveRetireBatch number s
  | .readBatches => serveReadBatches s
  | .takeLabel => serveTakeLabel s
  | .labelApplied rollId => serveLabelApplied rollId s
  | .relabel rollId => serveRelabel rollId s
  | .setRunSpeed run crawl => serveSetRunSpeed run crawl s
  | .setClaimGate setting => serveSetClaimGate setting s

/-- What follows a request in the same step: Arm Job and End Job register positions, which may be due already (R46, R50). -/
def afterRequest (r : Request) (s : State) : State :=
  match r with
  | .armJob | .endJob => drain s
  | .status _ | .readRepeat _ | .readRolls _ | .readNotices | .setNoticeMask _ | .claim _ _ | .release | .setGeometry _ _ _ => s
  | .loadJob _ | .lineReset | .setBroadcast _ | .takeTrims | .teachOffsets | .embossHold | .embossRelease | .startRoll _ => s
  | .cutFault _ _ | .reseedSampling | .setSeedLock _ | .readSamplePlan | .shadeSample _ _ _ _ _ | .defectMark _ _ _ => s
  | .closeBatch _ | .retireBatch _ | .readBatches | .takeLabel | .labelApplied _ | .relabel _ | .setRunSpeed _ _ => s
  | .setClaimGate _ => s

end Sys2Proof.Machine
end

