-- ==== Sys2Proof/Machine/Link.lean ====
section
/-! DEFINITION. The Line Link: frames with their CRC, the checks of a received frame, the taking of a request, the segments of
a response, and the link states. -/

namespace Sys2Proof.Machine

open Sys2Proof

/-! ### Frames and their CRC (R176, R192) -/

/-- One bit of the CRC register: shifted up, with the polynomial x^16 + x^12 + x^5 + 1 when a 1 leaves it (R176). -/
def crcShift (c : BitVec 16) : BitVec 16 := if c.getLsbD 15 then (c <<< 1) ^^^ 0x1021 else c <<< 1

/-- The CRC register after one byte, most significant bit first (R176). -/
def crcByte (c : BitVec 16) (b : Byte) : BitVec 16 :=
  crcShift (crcShift (crcShift (crcShift (crcShift (crcShift (crcShift (crcShift (c ^^^ (b.zeroExtend 16 <<< 8)))))))))

/-- The CRC over bytes, from an initial value of all ones (R176). -/
def crcOf (bs : List Byte) : BitVec 16 := bs.foldl crcByte 0xFFFF

/-- A frame between its delimiters: the body and its CRC, most significant byte first (R176, R192). -/
def withCrc (body : List Byte) : List Byte := body ++ bytesOf 2 (crcOf body).toNat

/-- The five bytes before the payload of a frame (R192). -/
def frameHead (address master code tag : Byte) (len : Nat) : List Byte := [address, master, code, tag, BitVec.ofNat 8 len]

/-- The frame that carries a request to an address (R192). -/
def requestFrame (address : Byte) (m : Master) (tag : Byte) (r : Request) : List Byte :=
  withCrc (frameHead address (BitVec.ofNat 8 (masterNumber m)) (requestCode (requestName r)) tag (requestPayload r).length
    ++ requestPayload r)

/-- The address byte of the broadcast address (R177). -/
def broadcastAddress : Byte := 0x00

/-! ### The checks of a frame (R176) -/

/-- The fields of a frame that has passed check 1. -/
structure Frame where
  address : Byte
  master : Byte
  code : Byte
  tag : Byte
  payload : List Byte
  deriving DecidableEq, Repr

/-- Check 1: at least 7 bytes, a payload length of at most 240, and 7 plus the payload length in all (R176). -/
def lengthGood (bs : List Byte) : Bool := 7 ≤ bs.length && fieldAt 4 1 bs ≤ 240 && bs.length == 7 + fieldAt 4 1 bs

/-- Check 2: the CRC carried equals the CRC over the address byte through the payload (R176). -/
def crcGood (bs : List Byte) : Bool :=
  fieldAt (bs.length - 2) 2 bs == (crcOf (bs.take (bs.length - 2))).toNat

/-- The fields of a frame. -/
def readFrame (bs : List Byte) : Frame :=
  { address := BitVec.ofNat 8 (fieldAt 0 1 bs), master := BitVec.ofNat 8 (fieldAt 1 1 bs), code := BitVec.ofNat 8 (fieldAt 2 1 bs),
    tag := BitVec.ofNat 8 (fieldAt 3 1 bs), payload := (bs.drop 5).take (fieldAt 4 1 bs) }

/-- Whether a request may be sent to the broadcast address: Claim or Release at its length (R176 check 5). -/
def broadcastAllowed (f : Frame) : Bool :=
  (f.code == requestCode .claim && lengthAllowed .claim f.payload.length)
    || (f.code == requestCode .release && lengthAllowed .release f.payload.length)

/-- The checks of R176 in order: the reason of the first that fails, or the frame with its sender. -/
def checkFrame (link : LinkUnit) (bs : List Byte) : Except DiscardReason (Frame × Master) :=
  let f := readFrame bs
  if !lengthGood bs then .error .length
  else if !crcGood bs then .error .crc
  else if !(f.address == link.address || (f.address == broadcastAddress && link.broadcast)) then .error .address
  else
    match masterOf f.master.toNat with
    | none => .error .master
    | some m => if f.address == broadcastAddress && !broadcastAllowed f then .error .broadcast else .ok (f, m)

/-- A frame is discarded: the discard count rises and the last discard reason is set (R176). -/
def discardFrame (reason : DiscardReason) (s : State) : State :=
  s.withLink { s.link with discards := saturate Config.max16 (s.link.discards + 1), lastReason := reason }

/-- `s` with the link state and the bytes gathered replaced. -/
def setLink (state : LinkState) (gathered : List Byte) (s : State) : State :=
  s.withLink { s.link with state := state, gathered := gathered }

/-! ### Taking a request (R180, R181) -/

/-- The part is about to answer: the link state is ANSWERING and no byte is gathered. -/
def beginAnswer (s : State) : State := setLink .answering [] s

/-- The response to a request is held for sending, no segment begun (R181). -/
def respond (m : Master) (code tag : Byte) (a : Answer) (s : State) : State :=
  s.withLink { s.link with
    response := some { master := BitVec.ofNat 8 (masterNumber m), code := code, tag := tag, answer := a, begun := 0 } }

/-- A request taken and answered, after its code has been found in the index: checks 2 and 3 of R180, then the owning block as
one event, its answer built at the moment the request is taken, and what follows in the same step. -/
def takeRequest (m : Master) (tag : Byte) (r : Request) (s : State) : State :=
  let s1 := beginAnswer s
  let code := requestCode (requestName r)
  if !permitted (requestName r) m then respond m code tag (refusal .notPermitted) s1
  else if !requestLengthOk r then respond m code tag (refusal .malformed) s1
  else afterRequest r (respond m code tag (serve m r s1).2 (asEvent (fun x => (serve m r x).1) s1))

/-- A frame addressed to the part is taken as a request (R180). -/
def takeAddressed (f : Frame) (m : Master) (s : State) : State :=
  match requestOfCode f.code with
  | none => respond m f.code f.tag (refusal .badRequest) (beginAnswer s)
  | some n =>
    if !permitted n m then respond m f.code f.tag (refusal .notPermitted) (beginAnswer s)
    else if !lengthAllowed n f.payload.length then respond m f.code f.tag (refusal .malformed) (beginAnswer s)
    else takeRequest m f.tag (readRequest n f.payload) s

/-- A broadcast frame is a Claim or a Release, taken without an answer (R164, R179). -/
def takeBroadcast (f : Frame) (m : Master) (s : State) : State :=
  let s1 := setLink .listening [] s
  if f.code = requestCode .claim then
    asEvent (takeClaim m (BitVec.ofNat 8 (fieldAt 0 1 f.payload)) (BitVec.ofNat 16 (fieldAt 1 2 f.payload))) s1
  else asEvent (takeRelease m) s1

/-- An end delimiter in RECEIVING ends the frame: it is checked, and discarded or taken (R175, R176, R179, R180). -/
def endFrame (s : State) : State :=
  match checkFrame s.link s.link.gathered with
  | .error reason => discardFrame reason (setLink .listening [] s)
  | .ok (f, m) => if f.address == broadcastAddress then takeBroadcast f m s else takeAddressed f m s

/-- A start delimiter and the bytes that follow it (R175). -/
def startFrame (data : List Byte) (s : State) : State :=
  match s.link.state with
  | .listening => setLink .receiving data s
  | .receiving => setLink .receiving data (discardFrame .framing s)
  | .answering => s

/-- A whole frame with a request to the part's link address arrives (R175, R180; notes/assumptions/4.md): a frame in progress is
discarded with FRAMING by its start delimiter, and nothing is received in ANSWERING. -/
def receiveRequest (m : Master) (tag : Byte) (r : Request) (s : State) : State :=
  match s.link.state with
  | .listening => takeRequest m tag r s
  | .receiving => takeRequest m tag r (discardFrame .framing s)
  | .answering => s

/-! ### Responses (R181, R192) -/

/-- The byte of an outcome code (Outcome codes). -/
def outcomeByte : OutcomeCode → Byte
  | .ok => 0x00 | .empty => 0x01 | .badRequest => 0x02 | .malformed => 0x03 | .notPermitted => 0x04 | .badValue => 0x05
  | .noJob => 0x06 | .busy => 0x07 | .notFound => 0x08 | .late => 0x09 | .duplicate => 0x0A | .stale => 0x0B | .tooLate => 0x0C

/-- The answer part on the wire: the values of OK and EMPTY; a refused request carries none (R192, notes/assumptions/10.md). -/
def answerPart (a : Answer) : List Byte :=
  match a.outcome with
  | .ok | .empty => a.values
  | .badRequest | .malformed | .notPermitted | .badValue | .noJob | .busy | .notFound => []
  | .late | .duplicate | .stale | .tooLate => []

/-- Bytes of answer in each segment but the last (R192). -/
def segmentRoom : Nat := 238

/-- How many segments a response has, at least 1 (R181). -/
def segmentCount (a : Answer) : Nat := max 1 (ceilDiv (answerPart a).length segmentRoom)

/-- The answer part of segment `i`. -/
def segmentPart (a : Answer) (i : Nat) : List Byte := ((answerPart a).drop (segmentRoom * i)).take segmentRoom

/-- The segment byte: the number in the low four bits, the high bit on the final segment (R192). -/
def segmentByte (a : Answer) (i : Nat) : Byte := BitVec.ofNat 8 (i % 16 + if i + 1 = segmentCount a then 0x80 else 0)

/-- Segment `i` of a response between its delimiters (R181, R192). -/
def segmentFrame (address : Byte) (r : Response) (i : Nat) : List Byte :=
  withCrc (frameHead (address + 0x80) r.master r.code r.tag (2 + (segmentPart r.answer i).length)
    ++ [outcomeByte r.answer.outcome, segmentByte r.answer i] ++ segmentPart r.answer i)

/-- The segment being sent: the one begun last. -/
def segmentOnWire (s : State) : Option (List Byte) :=
  s.link.response.bind fun r => if r.begun = 0 then none else some (segmentFrame s.link.address r (r.begun - 1))

/-- The part begins to send the next segment (R181). -/
def beginSegment (s : State) : State :=
  match s.link.state, s.link.response with
  | .answering, some r => if r.begun < segmentCount r.answer then s.withLink { s.link with response := some { r with begun := r.begun + 1 } } else s
  | _, _ => s

/-- The end delimiter of the final segment has been sent: the link listens again (R181). -/
def endResponse (s : State) : State :=
  match s.link.state, s.link.response with
  | .answering, some r => if r.begun = segmentCount r.answer then s.withLink { s.link with state := .listening, response := none } else s
  | _, _ => s

end Sys2Proof.Machine
end

