-- ==== Sys2Proof/Machine/Inputs.lean ====
section
/-! DEFINITION. The commands at the inputs, the timers, the link's line symbols and RESET_N: one meaning for each row. While
device reset is asserted none of them is taken (R190). -/

namespace Sys2Proof.Machine

open Sys2Proof

/-- `f` of the state, or the state as it is while device reset is asserted (R190). -/
def unlessReset (f : State → State) (s : State) : State := if s.pins.resetLow then s else f s

/-- An outcome of every command: a next state. -/
abbrev StepOutcome := Host.Outcome State Fault Refusal

/-- A counted edge moves the positions; the crossings follow when the high-water position has risen (R1, R2). -/
def takeEdge (edge : EncoderEdge) (s : State) : State :=
  match edgeForward s.model.aLeadsForward edge with
  | none => s
  | some forward =>
    let s1 := countEdge forward s
    if s.pos.highWater < s1.pos.highWater then takeDue s1 else s1

/-- ENCODER_EDGE (R1, R2). -/
def execEncoderEdge (edge : EncoderEdge) (s : State) : StepOutcome := .next (unlessReset (takeEdge edge) s)

/-- INTERVAL_TIMER (R3). -/
def execIntervalTimer (s : State) : StepOutcome := .next (unlessReset (asEvent takeInterval) s)

/-- REFERENCE_MARK (R5 to R8), the SYNTH repeats of window ends passed already when they are registered (R9), and the crossings
that the mark was taken ahead of. -/
def execReferenceMark (s : State) : StepOutcome :=
  .next (unlessReset (fun x => takeDue (takeRefEnds (drainBound x) (asEvent takeReferenceMark x))) s)

/-- SPLICE_EDGE (R13, R14), and the crossings that it was taken ahead of. -/
def execSpliceEdge (s : State) : StepOutcome := .next (unlessReset (fun x => takeDue (asEvent takeSplice x)) s)

/-- STATION_MARK (R66), and the crossings that it was taken ahead of. -/
def execStationMark (st : Station) (s : State) : StepOutcome :=
  .next (unlessReset (fun x => takeDue (asEvent (takeStationMark st) x)) s)

/-- STROBE_END: the knife pulse of a lane expires and its output goes low (R102). -/
def execStrobeEnd (l : Lane) (s : State) : StepOutcome :=
  .next (unlessReset (fun x => x.withPins { x.pins with knives := x.pins.knives.set l false }) s)

/-- START_DELIMITER, with the data bytes that follow it (R175). -/
def execStartDelimiter (data : List Byte) (s : State) : StepOutcome := .next (unlessReset (startFrame data) s)

/-- FRAME_PAUSE: in RECEIVING the frame ends unfinished and is discarded with FRAMING (R175). -/
def execFramePause (s : State) : StepOutcome :=
  .next (unlessReset (fun x => if x.link.state = .receiving then discardFrame .framing (setLink .listening [] x) else x) s)

/-- END_DELIMITER: in RECEIVING the frame is checked, and discarded or taken; otherwise ignored (R175, R176). -/
def execEndDelimiter (s : State) : StepOutcome :=
  .next (unlessReset (fun x => if x.link.state = .receiving then endFrame x else x) s)

/-- SEGMENT_SEND: the part begins to send the next response segment (R181). -/
def execSegmentSend (s : State) : StepOutcome := .next (unlessReset beginSegment s)

/-- FINAL_SEGMENT_END: the link state returns to LISTENING (R181). -/
def execFinalSegmentEnd (s : State) : StepOutcome := .next (unlessReset endResponse s)

/-- DEVICE_RESET: the assertion; a second one during a reset changes nothing further (R190). -/
def execDeviceReset (s : State) : StepOutcome := .next (if s.pins.resetLow then s else assertReset s)

/-- DEVICE_RESET_RELEASE, with the strap levels; it has no effect when no reset is asserted (R191). -/
def execDeviceResetRelease (adr0 adr1 adr2 : Bool) (s : State) : StepOutcome :=
  .next (if s.pins.resetLow then releaseReset adr0 adr1 adr2 s else s)

end Sys2Proof.Machine
end

