-- ==== Sys2Proof/Machine/RequestRows.lean ====
section
/-! DEFINITION. The request commands: one meaning for each request row, the arrival of a frame that carries the request
(R175, R180). What the owning block does and answers is in Requests.lean. -/

namespace Sys2Proof.Machine

open Sys2Proof

/-- STATUS (R182). -/
def execStatus (m : Master) (tag : Byte) (mask : BitVec 16) (s : State) : StepOutcome :=
  .next (unlessReset (receiveRequest m tag (.status mask)) s)

/-- READ_REPEAT (R34). -/
def execReadRepeat (m : Master) (tag : Byte) (serial : BitVec 32) (s : State) : StepOutcome :=
  .next (unlessReset (receiveRequest m tag (.readRepeat serial)) s)

/-- READ_ROLLS (R116). -/
def execReadRolls (m : Master) (tag : Byte) (rollId : BitVec 32) (s : State) : StepOutcome :=
  .next (unlessReset (receiveRequest m tag (.readRolls rollId)) s)

/-- READ_NOTICES (R185). -/
def execReadNotices (m : Master) (tag : Byte) (s : State) : StepOutcome :=
  .next (unlessReset (receiveRequest m tag .readNotices) s)

/-- SET_NOTICE_MASK (R186). -/
def execSetNoticeMask (m : Master) (tag : Byte) (mask : BitVec 16) (s : State) : StepOutcome :=
  .next (unlessReset (receiveRequest m tag (.setNoticeMask mask)) s)

/-- CLAIM (R162). -/
def execClaim (m : Master) (tag : Byte) (level : BitVec 8) (speed : BitVec 16) (s : State) : StepOutcome :=
  .next (unlessReset (receiveRequest m tag (.claim level speed)) s)

/-- RELEASE (R163). -/
def execRelease (m : Master) (tag : Byte) (s : State) : StepOutcome :=
  .next (unlessReset (receiveRequest m tag .release) s)

/-- SET_GEOMETRY (R41). -/
def execSetGeometry (m : Master) (tag : Byte) (dCut : BitVec 32) (dSp : BitVec 32) (eNip : BitVec 32) (s : State) : StepOutcome :=
  .next (unlessReset (receiveRequest m tag (.setGeometry dCut dSp eNip)) s)

/-- LOAD_JOB (R43). -/
def execLoadJob (m : Master) (tag : Byte) (payload : List Byte) (s : State) : StepOutcome :=
  .next (unlessReset (receiveRequest m tag (.loadJob payload)) s)

/-- ARM_JOB (R45, R46). -/
def execArmJob (m : Master) (tag : Byte) (s : State) : StepOutcome :=
  .next (unlessReset (receiveRequest m tag .armJob) s)

/-- END_JOB (R49, R50). -/
def execEndJob (m : Master) (tag : Byte) (s : State) : StepOutcome :=
  .next (unlessReset (receiveRequest m tag .endJob) s)

/-- LINE_RESET (R54). -/
def execLineReset (m : Master) (tag : Byte) (s : State) : StepOutcome :=
  .next (unlessReset (receiveRequest m tag .lineReset) s)

/-- SET_BROADCAST (R178). -/
def execSetBroadcast (m : Master) (tag : Byte) (setting : BitVec 8) (s : State) : StepOutcome :=
  .next (unlessReset (receiveRequest m tag (.setBroadcast setting)) s)

/-- TAKE_TRIMS (R76). -/
def execTakeTrims (m : Master) (tag : Byte) (s : State) : StepOutcome :=
  .next (unlessReset (receiveRequest m tag .takeTrims) s)

/-- TEACH_OFFSETS (R79). -/
def execTeachOffsets (m : Master) (tag : Byte) (s : State) : StepOutcome :=
  .next (unlessReset (receiveRequest m tag .teachOffsets) s)

/-- EMBOSS_HOLD (R86). -/
def execEmbossHold (m : Master) (tag : Byte) (s : State) : StepOutcome :=
  .next (unlessReset (receiveRequest m tag .embossHold) s)

/-- EMBOSS_RELEASE (R86). -/
def execEmbossRelease (m : Master) (tag : Byte) (s : State) : StepOutcome :=
  .next (unlessReset (receiveRequest m tag .embossRelease) s)

/-- START_ROLL (R110). -/
def execStartRoll (m : Master) (tag : Byte) (mask : BitVec 8) (s : State) : StepOutcome :=
  .next (unlessReset (receiveRequest m tag (.startRoll mask)) s)

/-- CUT_FAULT (R112 to R114). -/
def execCutFault (m : Master) (tag : Byte) (lane : BitVec 8) (rollId : BitVec 32) (s : State) : StepOutcome :=
  .next (unlessReset (receiveRequest m tag (.cutFault lane rollId)) s)

/-- RESEED_SAMPLING (R123). -/
def execReseedSampling (m : Master) (tag : Byte) (s : State) : StepOutcome :=
  .next (unlessReset (receiveRequest m tag .reseedSampling) s)

/-- SET_SEED_LOCK (R124). -/
def execSetSeedLock (m : Master) (tag : Byte) (setting : BitVec 8) (s : State) : StepOutcome :=
  .next (unlessReset (receiveRequest m tag (.setSeedLock setting)) s)

/-- READ_SAMPLE_PLAN (R125). -/
def execReadSamplePlan (m : Master) (tag : Byte) (s : State) : StepOutcome :=
  .next (unlessReset (receiveRequest m tag .readSamplePlan) s)

/-- SHADE_SAMPLE (R126, R127). -/
def execShadeSample (m : Master) (tag : Byte) (serial : BitVec 32) (lane : BitVec 8) (lightness : BitVec 16) (redGreen : BitVec 16) (yellowBlue : BitVec 16) (s : State) : StepOutcome :=
  .next (unlessReset (receiveRequest m tag (.shadeSample serial lane lightness redGreen yellowBlue)) s)

/-- DEFECT_MARK (R128). -/
def execDefectMark (m : Master) (tag : Byte) (serial : BitVec 32) (lane : BitVec 8) (count : BitVec 8) (s : State) : StepOutcome :=
  .next (unlessReset (receiveRequest m tag (.defectMark serial lane count)) s)

/-- CLOSE_BATCH (R139). -/
def execCloseBatch (m : Master) (tag : Byte) (number : BitVec 16) (s : State) : StepOutcome :=
  .next (unlessReset (receiveRequest m tag (.closeBatch number)) s)

/-- RETIRE_BATCH (R140). -/
def execRetireBatch (m : Master) (tag : Byte) (number : BitVec 16) (s : State) : StepOutcome :=
  .next (unlessReset (receiveRequest m tag (.retireBatch number)) s)

/-- READ_BATCHES (R143). -/
def execReadBatches (m : Master) (tag : Byte) (s : State) : StepOutcome :=
  .next (unlessReset (receiveRequest m tag .readBatches) s)

/-- TAKE_LABEL (R152). -/
def execTakeLabel (m : Master) (tag : Byte) (s : State) : StepOutcome :=
  .next (unlessReset (receiveRequest m tag .takeLabel) s)

/-- LABEL_APPLIED (R153). -/
def execLabelApplied (m : Master) (tag : Byte) (rollId : BitVec 32) (s : State) : StepOutcome :=
  .next (unlessReset (receiveRequest m tag (.labelApplied rollId)) s)

/-- RELABEL (R154). -/
def execRelabel (m : Master) (tag : Byte) (rollId : BitVec 32) (s : State) : StepOutcome :=
  .next (unlessReset (receiveRequest m tag (.relabel rollId)) s)

/-- SET_RUN_SPEED (R170). -/
def execSetRunSpeed (m : Master) (tag : Byte) (run : BitVec 16) (crawl : BitVec 16) (s : State) : StepOutcome :=
  .next (unlessReset (receiveRequest m tag (.setRunSpeed run crawl)) s)

/-- SET_CLAIM_GATE (R171). -/
def execSetClaimGate (m : Master) (tag : Byte) (setting : BitVec 8) (s : State) : StepOutcome :=
  .next (unlessReset (receiveRequest m tag (.setClaimGate setting)) s)

end Sys2Proof.Machine
end

