-- ==== Sys2Proof/Machine/Dispatch.lean ====
section
/-! DEFINITION. exec: one arm for each command of the table. -/

namespace Sys2Proof.Machine

open Sys2Proof

def exec (i : Instr) (s : State) : Host.Outcome State Fault Refusal :=
  match i with
  | .encoderEdge edge => Sys2Proof.Machine.execEncoderEdge edge s
  | .intervalTimer => Sys2Proof.Machine.execIntervalTimer s
  | .referenceMark => Sys2Proof.Machine.execReferenceMark s
  | .spliceEdge => Sys2Proof.Machine.execSpliceEdge s
  | .stationMark st => Sys2Proof.Machine.execStationMark st s
  | .strobeEnd l => Sys2Proof.Machine.execStrobeEnd l s
  | .startDelimiter data => Sys2Proof.Machine.execStartDelimiter data s
  | .framePause => Sys2Proof.Machine.execFramePause s
  | .endDelimiter => Sys2Proof.Machine.execEndDelimiter s
  | .segmentSend => Sys2Proof.Machine.execSegmentSend s
  | .finalSegmentEnd => Sys2Proof.Machine.execFinalSegmentEnd s
  | .status m tag mask => Sys2Proof.Machine.execStatus m tag mask s
  | .readRepeat m tag serial => Sys2Proof.Machine.execReadRepeat m tag serial s
  | .readRolls m tag rollId => Sys2Proof.Machine.execReadRolls m tag rollId s
  | .readNotices m tag => Sys2Proof.Machine.execReadNotices m tag s
  | .setNoticeMask m tag mask => Sys2Proof.Machine.execSetNoticeMask m tag mask s
  | .claim m tag level speed => Sys2Proof.Machine.execClaim m tag level speed s
  | .release m tag => Sys2Proof.Machine.execRelease m tag s
  | .setGeometry m tag dCut dSp eNip => Sys2Proof.Machine.execSetGeometry m tag dCut dSp eNip s
  | .loadJob m tag payload => Sys2Proof.Machine.execLoadJob m tag payload s
  | .armJob m tag => Sys2Proof.Machine.execArmJob m tag s
  | .endJob m tag => Sys2Proof.Machine.execEndJob m tag s
  | .lineReset m tag => Sys2Proof.Machine.execLineReset m tag s
  | .setBroadcast m tag setting => Sys2Proof.Machine.execSetBroadcast m tag setting s
  | .takeTrims m tag => Sys2Proof.Machine.execTakeTrims m tag s
  | .teachOffsets m tag => Sys2Proof.Machine.execTeachOffsets m tag s
  | .embossHold m tag => Sys2Proof.Machine.execEmbossHold m tag s
  | .embossRelease m tag => Sys2Proof.Machine.execEmbossRelease m tag s
  | .startRoll m tag mask => Sys2Proof.Machine.execStartRoll m tag mask s
  | .cutFault m tag lane rollId => Sys2Proof.Machine.execCutFault m tag lane rollId s
  | .reseedSampling m tag => Sys2Proof.Machine.execReseedSampling m tag s
  | .setSeedLock m tag setting => Sys2Proof.Machine.execSetSeedLock m tag setting s
  | .readSamplePlan m tag => Sys2Proof.Machine.execReadSamplePlan m tag s
  | .shadeSample m tag serial lane lightness redGreen yellowBlue => Sys2Proof.Machine.execShadeSample m tag serial lane lightness redGreen yellowBlue s
  | .defectMark m tag serial lane count => Sys2Proof.Machine.execDefectMark m tag serial lane count s
  | .closeBatch m tag number => Sys2Proof.Machine.execCloseBatch m tag number s
  | .retireBatch m tag number => Sys2Proof.Machine.execRetireBatch m tag number s
  | .readBatches m tag => Sys2Proof.Machine.execReadBatches m tag s
  | .takeLabel m tag => Sys2Proof.Machine.execTakeLabel m tag s
  | .labelApplied m tag rollId => Sys2Proof.Machine.execLabelApplied m tag rollId s
  | .relabel m tag rollId => Sys2Proof.Machine.execRelabel m tag rollId s
  | .setRunSpeed m tag run crawl => Sys2Proof.Machine.execSetRunSpeed m tag run crawl s
  | .setClaimGate m tag setting => Sys2Proof.Machine.execSetClaimGate m tag setting s
  | .deviceReset => Sys2Proof.Machine.execDeviceReset s
  | .deviceResetRelease adr0 adr1 adr2 => Sys2Proof.Machine.execDeviceResetRelease adr0 adr1 adr2 s

end Sys2Proof.Machine
end

