-- ==== Sys2Proof/Safety.lean ====
section
/-! DEFINITION. What a sound state of the part is, in the terms the statements use: the laws that the manual gives for every
moment (positions, bounds of the lists, arbitration, claims and their conditions, the lift line, notices, the ring), and the
form of a state in which a request is ready to be taken or has been answered. -/

namespace Sys2Proof.Machine

open Sys2Proof

/-! ### Laws of a state -/

/-- The line position never lies above the high-water position, both stay in 48 bits, the measured speed stays at or below
4000, and the running interval began at or below the high-water position (R1 to R3). -/
def PositionSound (s : State) : Prop :=
  s.pos.linePos ≤ s.pos.highWater ∧ s.pos.highWater ≤ Config.lineMax ∧ s.pos.speed ≤ Config.speedMax
    ∧ s.pos.intervalStart ≤ s.pos.highWater

/-- No bounded list holds more than its places: the splice list, the splice lift list, the roll history, the batch table and the
label queue (R13, R88, R108, R138, R148). -/
def ListsBounded (s : State) : Prop :=
  s.pos.splices.length ≤ Config.spliceListMax ∧ s.emboss.lifts.length ≤ Config.liftListMax
    ∧ s.rolls.history.length ≤ Config.historyMax ∧ s.shade.batches.length ≤ Config.batchMax
    ∧ s.labels.queue.length ≤ Config.labelMax

/-- What holds whenever an arbitration run has ended (R166, R168): the ACTIVE claim is eligible and no eligible claim is stronger;
with no ACTIVE claim none is eligible; the granted speed is the lower of the run speed and the ACTIVE claim's speed, or the
run speed without an ACTIVE claim; run and crawl speed are at most 4000 (R170). -/
def Arbitrated (u : SpeedUnit) : Prop :=
  (match u.active with
    | none => (∀ k, eligible u k = false) ∧ u.granted = u.runSpeed
    | some a => eligible u a = true ∧ (∀ k, eligible u k = true → slotLevel u k ≤ slotLevel u a)
        ∧ ∀ c, u.slots.get a = some c → u.granted = min u.runSpeed c.speed)
    ∧ u.runSpeed ≤ Config.speedMax ∧ u.crawlSpeed ≤ Config.speedMax

/-- The roll id counter and the entry stamp counter lie in their ranges (R99, R134). -/
def CountersInRange (s : State) : Prop :=
  1 ≤ s.rolls.nextRollId ∧ s.rolls.nextRollId ≤ 2 ^ 32 - 1 ∧ 1 ≤ s.shade.nextStamp ∧ s.shade.nextStamp ≤ 2 ^ 32 - 1

/-- Whether the reference is in one of the states that have an expected window (R4). -/
def ReferenceRuns (s : State) : Prop := s.pos.ref.state = .locked ∨ s.pos.ref.state = .coasting ∨ s.pos.ref.state = .lost

/-- The internal claims agree with their conditions (R172): REF is filled exactly while the reference is LOST, REG exactly while a
station is LOST, and LABEL exactly while the claim-held flag is set; the reference runs only with a head job, and a station that
is not OFF is in the head or the tail job (R59). -/
def ClaimsAgree (s : State) : Prop :=
  ((s.speed.slots.get .ref).isSome = true ↔ s.pos.ref.state = .lost)
    ∧ ((s.speed.slots.get .reg).isSome = true ↔ ∃ st, (s.register.get st).state = .lost)
    ∧ (s.speed.slots.get .label).isSome = s.labels.claimHeld
    ∧ (ReferenceRuns s → s.jobs.head.isSome = true)
    ∧ ∀ st, (s.register.get st).state ≠ .off → (stationJob st s).isSome = true

/-- The embosser agrees with its causes (R83, R84, R91): the lift line is asserted exactly in LIFTED; NONE exactly without an emboss
part, LIFTED exactly with an emboss part and a lift cause in force, SETTLING exactly while the settle count is above 0; an emboss
part belongs to a nip job. -/
def EmbossSound (s : State) : Prop :=
  (elAsserted s = true ↔ s.emboss.state = .lifted)
    ∧ (s.emboss.state = .none ↔ s.emboss.part = none)
    ∧ (s.emboss.state = .lifted ↔ s.emboss.part.isSome = true ∧ anyCause s = true)
    ∧ (s.emboss.state = .settling ↔ s.emboss.settleCount ≠ 0)
    ∧ (s.emboss.part.isSome = true → s.emboss.nipJob.isSome = true)

/-- The link unit is in order (R175 to R186): the address lies from 0x40 to 0x47; a response is held exactly in ANSWERING, with
no more segments begun than it has; every pending kind is in its master's mask with a count of at most 255; the discard count
is at most 65535. -/
def LinkSound (s : State) : Prop :=
  0x40 ≤ s.link.address.toNat ∧ s.link.address.toNat ≤ 0x47
    ∧ (s.link.state = .answering ↔ s.link.response.isSome = true)
    ∧ (∀ r, s.link.response = some r → r.begun ≤ segmentCount r.answer)
    ∧ (∀ m k, (s.link.notices.get m).get k ≠ 0 → (s.link.masks.get m).get k = true)
    ∧ (∀ m k, (s.link.notices.get m).get k ≤ 255)
    ∧ s.link.discards ≤ Config.max16

/-- While RESET_N is low, every block holds its device-reset values and every output is released (R190). -/
def HeldInReset (s : State) : Prop := s.pins.resetLow = true → s = assertReset s

/-- The ranges of R and W that a loaded record keeps (R42, fields 3 and 4). -/
def GoodLengths (j : JobRecord) : Prop :=
  2000 ≤ j.length ∧ j.length ≤ 30000 ∧ 50 ≤ j.halfWindow ∧ 4 * j.halfWindow < j.length

/-- The job slots are in order: the geometry is one that Set Geometry accepts (R41), no job is armed while a tail job is in the
path (R45), and the records in the slots keep the ranges of R and W (R42). -/
def JobsSound (s : State) : Prop :=
  validGeometry s.jobs.geometry = true ∧ (s.jobs.tail.isSome = true → armedJob s = none)
    ∧ (∀ j, s.jobs.staged = some j → GoodLengths j.record) ∧ (∀ h, s.jobs.head = some h → GoodLengths h.record)
    ∧ ∀ t, s.jobs.tail = some t → GoodLengths t.record

/-- The path and the job slots agree (R44, R45): every record in the ring is of the head or the tail job, which have different
numbers; an armed job is not the head job; a tail job beside a head job has no final boundary; in SEEKING the path is empty. -/
def PathSound (s : State) : Prop :=
  (∀ r ∈ s.map.ring, (∃ h, s.jobs.head = some h ∧ h.record.number = r.job) ∨ ∃ t, s.jobs.tail = some t ∧ t.record.number = r.job)
    ∧ (∀ h t, s.jobs.head = some h → s.jobs.tail = some t → h.record.number ≠ t.record.number ∧ t.finalBoundary = none)
    ∧ (∀ h j, s.jobs.head = some h → armedJob s = some j → j.number ≠ h.record.number)
    ∧ (s.pos.ref.state = .seeking → s.jobs.head = none ∧ s.jobs.tail = none)

/-- The ring holds consecutive serials, beginning after the retired mark and ending before the next serial; the knife cursor is
at the oldest record, or waits at the serial after the retired mark; the nip cursor lies at or before the next serial (R21,
R30, R32). -/
def RingSound (s : State) : Prop :=
  s.map.ring.map (·.serial) = (List.range s.map.ring.length).map (s.map.retired + 1 + ·)
    ∧ s.pos.nextSerial = s.map.retired + 1 + s.map.ring.length
    ∧ s.map.knifeCursor = s.map.retired + 1
    ∧ s.map.nipCursor ≤ s.pos.nextSerial

/-! ### Requests -/

/-- The part can take a request at its next frame: device reset is not asserted, the link listens, and no event is in progress
(the model's own mark of R93, which is clear between commands). -/
def Ready (s : State) : Prop := s.pins.resetLow = false ∧ s.link.state = .listening ∧ s.model.embossNoticed = false

/-- `s` with an answer held for sending: the link is ANSWERING, with no segment begun; nothing else is changed (R180, R181). -/
def answered (m : Master) (n : RequestName) (tag : Byte) (outcome : OutcomeCode) (values : List Byte) (s : State) : State :=
  s.withLink { s.link with
    state := .answering
    gathered := []
    response := some { master := BitVec.ofNat 8 (masterNumber m), code := requestCode n, tag := tag,
                       answer := { outcome := outcome, values := values }, begun := 0 } }

/-- `s` after an event that set the speed authority to `u`, with CLAIM_CHANGE raised once when the granted speed changed (R169). -/
def withGrant (u : SpeedUnit) (s : State) : State :=
  if u.granted = s.speed.granted then s.withSpeed u else raiseNotice .claimChange (s.withSpeed u)

/-- Nothing registered has been reached by the high-water position: every crossing has been taken (R2). -/
def Settled (s : State) : Prop := dueCrossings s = []

/-- The slot that R166 step 2 chooses: of greatest level among the eligible slots, and first in the fixed order among equals; none
when no slot is eligible. -/
def ChosenAfresh (u : SpeedUnit) (chosen : Option Slot) : Prop :=
  match chosen with
  | none => ∀ k, eligible u k = false
  | some a => eligible u a = true
      ∧ (∀ k, eligible u k = true → slotLevel u k < slotLevel u a ∨ (slotLevel u k = slotLevel u a ∧ slotPlace a ≤ slotPlace k))

/-- Arbitration has run from `u` to `v`, whose slots and gate are those after the event (R166): the ACTIVE claim of `u` keeps its
place when it is still eligible, the event did not lower its level and no eligible claim is strictly stronger; otherwise the
active slot is chosen afresh. The granted speed is then recomputed (R168). -/
def RunsArbitration (u v : SpeedUnit) : Prop :=
  (∀ a, u.active = some a → eligible v a = true → slotLevel u a ≤ slotLevel v a →
      (∀ k, eligible v k = true → slotLevel v k ≤ slotLevel v a) → v.active = some a)
    ∧ ((∀ a, u.active = some a →
          ¬(eligible v a = true ∧ slotLevel u a ≤ slotLevel v a ∧ ∀ k, eligible v k = true → slotLevel v k ≤ slotLevel v a)) →
        ChosenAfresh v v.active)
    ∧ (v.active = none → v.granted = v.runSpeed)
    ∧ (∀ a c, v.active = some a → v.slots.get a = some c → v.granted = min v.runSpeed c.speed)

/-- From `u` to `v` the claim gate, the run speed and the crawl speed are as they were (R166, R170, R171). -/
def SettingsKept (u v : SpeedUnit) : Prop := v.gateOpen = u.gateOpen ∧ v.runSpeed = u.runSpeed ∧ v.crawlSpeed = u.crawlSpeed

/-- The state and settle count of the embosser after the lift causes were found again (R84): `settle` is S of the emboss part,
`cause` says whether a cause is in force. -/
def afterCauses (settle : Nat) (cause : Bool) (state : EmbossState) (count : Nat) : EmbossState × Nat :=
  match state with
  | .none => (.none, count)
  | .lifted => if cause then (.lifted, count) else if settle = 0 then (.engaged, 0) else (.settling, settle)
  | .settling => if cause then (.lifted, 0) else (.settling, count)
  | .engaged => if cause then (.lifted, 0) else (.engaged, count)

/-- `s` with the embosser at a state and settle count, EMBOSS_CHANGE raised when the state moved (R93). -/
def embossAt (p : EmbossState × Nat) (s : State) : State :=
  if p.1 = s.emboss.state then s.withEmboss { s.emboss with state := p.1, settleCount := p.2 }
  else raiseNotice .embossChange (s.withEmboss { s.emboss with state := p.1, settleCount := p.2 })

/-- The pending count of a kind for a master; 0 when the kind is not in the pending set (R183). -/
def pendingCount (m : Master) (k : NoticeKind) (s : State) : Nat := (s.link.notices.get m).get k

/-- Between `s` and `t` a notice kind was raised once, for every master (R183). -/
def RaisedOnce (k : NoticeKind) (s t : State) : Prop :=
  ∀ m, pendingCount m k t = if (s.link.masks.get m).get k = true then min 255 (pendingCount m k s + 1) else pendingCount m k s

/-- Between `s` and `t` a notice kind was not raised. -/
def NotRaised (k : NoticeKind) (s t : State) : Prop := ∀ m, pendingCount m k t = pendingCount m k s

/-- `u`, reached from `s` by the changes of one event, with CLAIM_CHANGE raised when the granted speed is not that of `s` (R169). -/
def grantNoticed (s u : State) : State := if u.speed.granted = s.speed.granted then u else raiseNotice .claimChange u

/-! ### Claims and stations -/

/-- Whether a station is LOST in job `j` (R75). -/
def LostIn (st : Station) (j : JobRecord) (s : State) : Prop := (s.register.get st).state = .lost ∧ stationJob st s = some j

/-- What the REG slot holds (R75): nothing without a LOST station, and otherwise a claim at level 5 with the lowest recovery speed
of the LOST stations' jobs. -/
def RegClaimIs (c : Option ClaimValue) (s : State) : Prop :=
  match c with
  | none => ∀ st j, ¬LostIn st j s
  | some c => c.level = 5 ∧ (∃ st j, LostIn st j s ∧ c.speed = j.recoverySpeed) ∧ ∀ st j, LostIn st j s → c.speed ≤ j.recoverySpeed

/-- From `s` to `t` the REG slot was set again for the LOST stations of `t`: one change of that slot alone, with its arbitration
(R74, R75, R165). -/
def RegSetAgain (s t : State) : Prop :=
  RegClaimIs (t.speed.slots.get .reg) t ∧ t.speed.slots = s.speed.slots.set .reg (t.speed.slots.get .reg)
    ∧ RunsArbitration s.speed t.speed ∧ SettingsKept s.speed t.speed

/-- The LABEL slot was filled from `s` to `t` at level 3 with the crawl speed (R150, R151). -/
def LabelRaised (s t : State) : Prop :=
  t.labels.claimHeld = true ∧ t.speed.slots = s.speed.slots.set .label (some { level := 3, speed := s.speed.crawlSpeed })
    ∧ RunsArbitration s.speed t.speed ∧ SettingsKept s.speed t.speed

/-- Between `s` and `t` a notice kind was raised `n` times, for every master (R183). -/
def RaisedTimes (n : Nat) (k : NoticeKind) (s t : State) : Prop :=
  ∀ m, pendingCount m k t =
    if n ≠ 0 ∧ (s.link.masks.get m).get k = true then min 255 (pendingCount m k s + n) else pendingCount m k s

/-- What a removal of labels from `s` to `t` does to the LABEL claim (R150): with 10 or fewer records left a held claim is released,
with its arbitration; otherwise the claim is as it was. -/
def LabelClaimFollows (s t : State) : Prop :=
  (t.labels.queue.length ≤ 10 → s.labels.claimHeld = true →
      t.labels.claimHeld = false ∧ t.speed.slots = s.speed.slots.set .label none ∧ RunsArbitration s.speed t.speed
        ∧ SettingsKept s.speed t.speed)
    ∧ (10 < t.labels.queue.length ∨ s.labels.claimHeld = false → t.labels.claimHeld = s.labels.claimHeld ∧ t.speed = s.speed)

/-! ### Teach Offsets (R79) -/

/-- A station whose offset Teach Offsets rewrites (R79): TRACKING or HOLDING, teach-ready, and the offset `a` of its own job plus its
last error lies from 0 to D_cut - W - 1. -/
def Taught (st : Station) (a : Nat) (s : State) : Prop :=
  let r := s.register.get st
  (r.state = .tracking ∨ r.state = .holding) ∧ r.teachReady = true ∧ stationOffset st s = some a ∧ 0 ≤ (a : Int) + r.lastError
    ∧ ∃ j, stationJob st s = some j ∧ (a : Int) + r.lastError ≤ (s.jobs.geometry.dCut : Int) - j.halfWindow - 1

/-- The record `j` after Teach Offsets in `s` is `j'` (R79): the entry of each taught station of this job has the taught offset, and
nothing else differs. -/
def TeachesRecord (s : State) (j j' : JobRecord) : Prop :=
  j' = { j with stations := j'.stations }
    ∧ List.Forall₂ (fun e e' : StationEntry =>
        (∀ st a, e.station = stationNumber st → Taught st a s → (s.register.get st).job = some j.number →
          e' = { e with offset := ((a : Int) + (s.register.get st).lastError).toNat })
        ∧ ((∀ st a, e.station = stationNumber st → Taught st a s → (s.register.get st).job ≠ some j.number) → e' = e))
      j.stations j'.stations

/-! ### The job record (R42, R194) -/

/-- The number `n` is L_mm x 20 / R rounded up, for the L_mm and the R of a Load Job payload (fields 12 and 3). -/
def IsStandardRepeats (p : List Byte) (n : Nat) : Prop :=
  fieldAt 21 2 p * 20 ≤ n * fieldAt 14 2 p ∧ n * fieldAt 14 2 p < fieldAt 21 2 p * 20 + fieldAt 14 2 p

/-- The station entry at index `i` of a Load Job payload holds a valid value in a per-entry field, 7 to 10 (R42). -/
def EntryValid (p : List Byte) (i : Nat) : Nat → Prop
  | 7 => (fieldAt (43 + 9 * i) 1 p = 0 → fieldAt (44 + 9 * i) 4 p = 0) ∧ fieldAt (44 + 9 * i) 4 p ≤ 3999999
  | 8 => fieldAt (48 + 9 * i) 1 p ≤ 255
  | 9 => fieldAt (49 + 9 * i) 1 p ≤ 100
  | 10 => 1 ≤ fieldAt (50 + 9 * i) 2 p ∧ fieldAt (50 + 9 * i) 2 p ≤ 2000
  | _ => True

/-- A field of a Load Job payload, by its number in the job record table, holds a valid value (R42, R194). -/
def FieldValid (p : List Byte) (field : Nat) : Prop :=
  let count := fieldAt 19 1 p
  let emb := 43 + 9 * count
  let embosses := fieldAt 29 1 p = 1
  match field with
  | 1 => 1 ≤ fieldAt 0 2 p ∧ fieldAt 0 2 p ≤ 65535
  | 2 => ∃ k, 1 ≤ k ∧ k ≤ 12 ∧ ∀ i < 12, if i < k then 0x20 ≤ fieldAt (2 + i) 1 p ∧ fieldAt (2 + i) 1 p ≤ 0x7E else fieldAt (2 + i) 1 p = 0
  | 3 => 2000 ≤ fieldAt 14 2 p ∧ fieldAt 14 2 p ≤ 30000
  | 4 => 50 ≤ fieldAt 16 2 p ∧ fieldAt 16 2 p ≤ 2000 ∧ 4 * fieldAt 16 2 p < fieldAt 14 2 p
  | 5 => 2 ≤ fieldAt 18 1 p ∧ fieldAt 18 1 p ≤ 8
  | 6 => (∀ i < count, fieldAt (43 + 9 * i) 1 p ≤ 7)
      ∧ (∀ i < count, ∀ k < count, i ≠ k → fieldAt (43 + 9 * i) 1 p ≠ fieldAt (43 + 9 * k) 1 p)
      ∧ (∃ i, i < count ∧ fieldAt (43 + 9 * i) 1 p = 0) ∧ ((∃ i, i < count ∧ fieldAt (43 + 9 * i) 1 p = 7) → embosses)
  | 7 => ∀ i < count, EntryValid p i 7
  | 8 => ∀ i < count, EntryValid p i 8
  | 9 => ∀ i < count, EntryValid p i 9
  | 10 => ∀ i < count, EntryValid p i 10
  | 11 => 1 ≤ fieldAt 20 1 p ∧ fieldAt 20 1 p ≤ 63
  | 12 => 5000 ≤ fieldAt 21 2 p ∧ fieldAt 21 2 p ≤ 33000 ∧ ∃ n, IsStandardRepeats p n ∧ 2 ≤ n ∧ n ≤ 1000
  | 13 => fieldAt 23 2 p < fieldAt 14 2 p
  | 14 => 1 ≤ fieldAt 25 2 p ∧ ∃ n, IsStandardRepeats p n ∧ fieldAt 25 2 p < n
  | 15 => fieldAt 27 1 p ≤ 2
  | 16 => 1 ≤ fieldAt 28 1 p ∧ fieldAt 28 1 p ≤ 4
  | 17 => fieldAt 29 1 p ≤ 1
  | 18 => embosses → fieldAt emb 1 p ≤ 8 ∧ fieldAt emb 1 p ≤ fieldAt 28 1 p
  | 19 => embosses → fieldAt (emb + 1) 2 p + fieldAt 16 2 p + 1 ≤ fieldAt 14 2 p
  | 20 => embosses → fieldAt (emb + 3) 2 p ≤ 4000
  | 21 => fieldAt 30 2 p ≤ 4000
  | 22 => fieldAt 32 2 p ≤ 4000
  | 23 => 10 ≤ fieldAt 34 2 p ∧ fieldAt 34 2 p ≤ 500
  | 24 => 10 ≤ fieldAt 36 2 p ∧ fieldAt 36 2 p ≤ 1000
  | 25 => 1 ≤ fieldAt 38 1 p ∧ fieldAt 38 1 p ≤ 255
  | 26 => 1 ≤ fieldAt 39 1 p ∧ fieldAt 39 1 p ≤ 64
  | 27 => fieldAt 40 1 p ≤ 255
  | 28 => 1 ≤ fieldAt 41 2 p ∧ fieldAt 41 2 p ≤ 9000
  | _ => True

/-- The job record that a valid Load Job payload carries (R42, R194): the station entries in ascending station order, the pattern up
to its first 0x00, and the emboss part when field 17 is yes. -/
def RecordRead (p : List Byte) (j : JobRecord) : Prop :=
  let count := fieldAt 19 1 p
  let emb := 43 + 9 * count
  j.number = fieldAt 0 2 p ∧ (∃ k, j.pattern = (p.drop 2).take k ∧ k ≤ 12 ∧ ∀ i < 12, (i < k ↔ fieldAt (2 + i) 1 p ≠ 0))
    ∧ j.length = fieldAt 14 2 p ∧ j.halfWindow = fieldAt 16 2 p ∧ j.missLimit = fieldAt 18 1 p
    ∧ j.stations.Perm ((List.range count).map fun i =>
        { station := fieldAt (43 + 9 * i) 1 p, offset := fieldAt (44 + 9 * i) 4 p, gain := fieldAt (48 + 9 * i) 1 p,
          deadband := fieldAt (49 + 9 * i) 1 p, trimLimit := fieldAt (50 + 9 * i) 2 p })
    ∧ j.stations.Pairwise (fun a b => a.station < b.station)
    ∧ (∀ l, j.lanes.get l = (fieldAt 20 1 p).testBit (laneNumber l))
    ∧ j.targetMm = fieldAt 21 2 p ∧ j.cutPhase = fieldAt 23 2 p ∧ j.minRepeats = fieldAt 25 2 p
    ∧ j.excludeBefore = fieldAt 27 1 p ∧ j.excludeAfter = fieldAt 28 1 p
    ∧ j.emboss = (if fieldAt 29 1 p = 1 then
        some { settle := fieldAt emb 1 p, lead := fieldAt (emb + 1) 2 p, minSpeed := fieldAt (emb + 3) 2 p } else none)
    ∧ j.registerMinSpeed = fieldAt 30 2 p ∧ j.recoverySpeed = fieldAt 32 2 p ∧ j.batchTolerance = fieldAt 34 2 p
    ∧ j.spreadLimit = fieldAt 36 2 p ∧ j.minSamples = fieldAt 38 1 p ∧ j.sampleInterval = fieldAt 39 1 p
    ∧ j.defectLimit = fieldAt 40 1 p ∧ j.batchBase = fieldAt 41 2 p

/-! ### Repeat creation (R11) -/

/-- A record without what the stations and the nip write into it. -/
def Repeat.printed (r : Repeat) : Repeat := { r with results := PerStation.tabulate fun _ => .pending, emboss := .pending }

/-- Whether a splice position lies in the span that a creation at `start` completes, that of the newest record (R15). -/
def inCompletedSpan (start : Nat) (s : State) (p : Nat) : Bool :=
  match s.map.ring.getLast? with
  | none => false
  | some r => r.start ≤ p && p < start

/-- The splice repeat that a creation at `start` gives, with its job; none when no position is resolved (R15). -/
def spliceRepeatAt (start : Nat) (s : State) : Option (Nat × JobRecord) :=
  if s.pos.splices.any (inCompletedSpan start s) then
    s.map.ring.getLast?.bind fun r => (jobOf r.job s).map fun j => (r.serial, j)
  else none

/-- A record of the ring after a splice repeat `n` of job `j` was flagged (R16 steps 1 to 3). -/
def zoneFlagged (n : Nat) (j : JobRecord) (r : Repeat) : Repeat :=
  { r with
    splice := r.splice || decide (r.serial = n)
    excluded := r.excluded || decide (n ≤ r.serial + j.excludeBefore ∧ r.serial ≤ n + j.excludeAfter) }

/-- The extent after a splice repeat `n` of job `j` was flagged with `newest` the newest serial (R16 step 4). -/
def extentReached (n : Nat) (j : JobRecord) (extent newest : Nat) : Nat :=
  if extent < n + j.excludeAfter ∧ newest < n + j.excludeAfter then n + j.excludeAfter else extent

/-- The records of the ring as steps 1 and 2 of a creation at `start` leave them: the newest takes its length, and a splice repeat
is flagged with its zone (R11, R15, R16, R23). -/
def recordsCompleted (start : Nat) (s : State) : List Repeat :=
  match s.map.ring.getLast? with
  | none => []
  | some last => s.map.ring.map fun r =>
      let r1 := if r.serial = last.serial then { r with length := some (start - last.start) } else r
      match spliceRepeatAt start s with
      | none => r1
      | some (n, j) => zoneFlagged n j r1

/-- The extent after step 2 of a creation at `start` (R16). -/
def extentCompleted (start : Nat) (s : State) : Nat :=
  match spliceRepeatAt start s with
  | none => s.map.extent
  | some (n, j) => extentReached n j s.map.extent n

/-- The record of the repeat that a creation of job `j` adds, apart from its results and its emboss status (R17, R22, R121). -/
def recordCreated (s : State) (j : JobRecord) (start : Nat) (origin : Origin) (res : StationResult) (target : Option Nat) : Repeat :=
  { serial := s.pos.nextSerial, start := start, length := none, job := j.number, origin := origin, changePoint := (armedJob s).isSome,
    splice := false, excluded := decide (s.pos.nextSerial ≤ extentCompleted start s), designated := decide (target = some s.pos.nextSerial),
    refResult := res, results := PerStation.tabulate fun _ => .pending, emboss := .pending,
    lanes := (allLanes.filter fun l => j.lanes.get l).map fun l => { lane := l, sample := none, defects := 0 } }

/-- The first serial from which the new repeat's sample intervals are counted: its own for a change point, otherwise the head
job's (R121, R122). -/
def intervalFirst (s : State) : Nat :=
  if (armedJob s).isSome then s.pos.nextSerial else (s.jobs.head.map (·.firstSerial)).getD 0

/-- The job slots after a creation (R47): at a change point the armed record is the head job and the former head the tail job. -/
def slotsAfterCreation (s : State) : JobUnit :=
  match armedJob s with
  | none => s.jobs
  | some a => { s.jobs with
      staged := none
      head := some { record := a, firstSerial := s.pos.nextSerial }
      tail := match s.jobs.head with
        | none => s.jobs.tail
        | some h => some { record := h.record, firstSerial := h.firstSerial, lastSerial := s.pos.nextSerial - 1, finalBoundary := none } }

/-- Whether the sample interval of job `j` starts at the next serial (R121). -/
def intervalStarts (s : State) (j : JobRecord) : Prop := (s.pos.nextSerial - intervalFirst s) % j.sampleInterval = 0

/-- The creation of a repeat of job `j` at `start`, from `s` to `u` (R11): the serial, the splice list, the ring with the completed
and the new record, the extent, the job slots, the batch counters (R134), the designation, and their notices. -/
def CreatesRepeat (s : State) (j : JobRecord) (start : Nat) (origin : Origin) (res : StationResult) (u : State) : Prop :=
  (s.pos.nextSerial < 2 ^ 32 - 1 → u.pos.nextSerial = s.pos.nextSerial + 1)
    ∧ u.pos.splices = s.pos.splices.filter (fun p => !inCompletedSpan start s p)
    ∧ u.map.ring.map Repeat.printed
        = (recordsCompleted start s).map Repeat.printed ++ [recordCreated s j start origin res u.shade.target]
    ∧ u.map.extent = (if s.pos.nextSerial = extentCompleted start s then 0 else extentCompleted start s)
    ∧ ((spliceRepeatAt start s).isSome = true → RaisedOnce .spliceSeen s u)
    ∧ (spliceRepeatAt start s = none → NotRaised .spliceSeen s u)
    ∧ u.jobs = slotsAfterCreation s
    ∧ ((armedJob s).isSome = true → RaisedOnce .jobSwitched s u)
    ∧ (armedJob s = none → NotRaised .jobSwitched s u)
    ∧ ((armedJob s).isSome = true → u.shade.headCounter = some j.batchBase
        ∧ (s.jobs.head.isSome = true → u.shade.tailCounter = s.shade.headCounter))
    ∧ (armedJob s = none → u.shade.headCounter = s.shade.headCounter ∧ u.shade.tailCounter = s.shade.tailCounter)
    ∧ (intervalStarts s j → u.shade.generator = stepGenerator s.shade.generator
        ∧ u.shade.target = some (s.pos.nextSerial + (stepGenerator s.shade.generator).toNat % j.sampleInterval))
    ∧ (¬intervalStarts s j → u.shade.generator = s.shade.generator ∧ u.shade.target = s.shade.target)

/-- The stations of job `j` at the creation of a repeat at `start`, from `s` to `u` (R22, R60, R63, R64): a station that the job does
not list is SKIPPED from the creation (an OFF station holds no cursor, R62). At a change point an OFF station that the job lists
is ARMED at it with zero trims; a MARKED repeat that is not excluded holds PENDING for it with the window placed at p + a_s ± W,
and any other is skipped at once. The window of a MARKED repeat is stated while its end and its nip crossing lie ahead of the
high-water position. -/
def StationsMeet (s : State) (j : JobRecord) (start : Nat) (origin : Origin) (u : State) : Prop :=
  ∀ rec, u.map.ring.getLast? = some rec → ∀ st,
    (((s.register.get st).state = .off → s.register.get st = StationRecord.off) → j.entry st = none → rec.results.get st = .skipped)
      ∧ ∀ e, j.entry st = some e →
          let started : StationRecord := { StationRecord.off with state := .armed, job := some j.number, cursor := some s.pos.nextSerial }
          (origin = .marked → rec.excluded = false → s.pos.highWater ≤ start → s.pos.highWater < start + s.jobs.geometry.eNip →
              GoodLengths j → rec.results.get st = .pending
                ∧ ((armedJob s).isSome = true → s.register.get st = StationRecord.off →
                    u.register.get st = { started with window := some { centre := start + e.offset, halfWidth := j.halfWindow } }))
          ∧ (origin = .synth ∨ rec.excluded = true → (armedJob s).isSome = true → s.register.get st = StationRecord.off →
              rec.results.get st = .skipped ∧ u.register.get st = { started with cursor := some (s.pos.nextSerial + 1) })

/-- A creation of a repeat of job `j` at `start` reaches the knife boundary that follows the one record `r` of the ring, where the
knife cursor rests: the new repeat's knife boundary does not lie ahead of the high-water position (R96). -/
def CreationReachesKnife (s : State) (j : JobRecord) (start : Nat) (r : Repeat) : Prop :=
  s.map.ring = [r] ∧ s.map.knifeCursor = r.serial ∧ s.pos.nextSerial = r.serial + 1
    ∧ (∀ t, s.jobs.tail = some t → t.finalBoundary = none)
    ∧ start + s.jobs.geometry.dCut + j.cutPhase ≤ s.pos.highWater

/-- The creation of a repeat of job `j` at `start`, from `s` to `u`, that reaches the knife boundary of the record before it (R11,
R96): in the state `w` the new record has joined the ring, not yet designated; the boundary counts as crossed at its registration,
and the knife acts on the record before, as at a crossing (R97); the designation follows. -/
def CreatesPastKnife (s : State) (j : JobRecord) (start : Nat) (origin : Origin) (res : StationResult) (u : State) : Prop :=
  ∃ (w : State) (k : Repeat),
    w.map.ring.map Repeat.printed = (recordsCompleted start s).map Repeat.printed ++ [recordCreated s j start origin res none]
      ∧ w.map.ring.head? = some k
      ∧ w.map.extent = (if s.pos.nextSerial = extentCompleted start s then 0 else extentCompleted start s)
      ∧ w.pos.splices = s.pos.splices.filter (fun p => !inCompletedSpan start s p)
      ∧ w.jobs = slotsAfterCreation s ∧ w.rolls = s.rolls ∧ w.labels = s.labels ∧ w.pins = s.pins
      ∧ w.shade = { s.shade with headCounter := w.shade.headCounter, tailCounter := w.shade.tailCounter }
      ∧ ((armedJob s).isSome = true → w.shade.headCounter = some j.batchBase
          ∧ (s.jobs.head.isSome = true → w.shade.tailCounter = s.shade.headCounter))
      ∧ (armedJob s = none → w.shade = s.shade)
      ∧ ((spliceRepeatAt start s).isSome = true → RaisedOnce .spliceSeen s w)
      ∧ (spliceRepeatAt start s = none → NotRaised .spliceSeen s w)
      ∧ ((armedJob s).isSome = true → RaisedOnce .jobSwitched s w) ∧ (armedJob s = none → NotRaised .jobSwitched s w)
      ∧ StationsMeet s j start origin w
      ∧ dueKnifeReg w = some { position := start + s.jobs.geometry.dCut + j.cutPhase, kind := .successorBoundary }
      ∧ let v := actAtKnife .successorBoundary k w
        u.rolls = v.rolls ∧ u.labels = v.labels ∧ u.pins = v.pins ∧ u.jobs = v.jobs ∧ u.register = v.register ∧ u.emboss = v.emboss
          ∧ u.pos.splices = v.pos.splices ∧ (s.pos.nextSerial < 2 ^ 32 - 1 → u.pos.nextSerial = s.pos.nextSerial + 1)
          ∧ u.map = { v.map with ring := v.map.ring.map fun x => { x with designated := decide (u.shade.target = some s.pos.nextSerial) } }
          ∧ u.map.ring.length = 1
          ∧ u.shade = { v.shade with generator := u.shade.generator, target := u.shade.target }
          ∧ (intervalStarts s j → u.shade.generator = stepGenerator s.shade.generator
              ∧ u.shade.target = some (s.pos.nextSerial + (stepGenerator s.shade.generator).toNat % j.sampleInterval))
          ∧ (¬intervalStarts s j → u.shade.generator = s.shade.generator ∧ u.shade.target = s.shade.target)
          ∧ (∀ m n, n ≠ .refLost → n ≠ .refLocked → n ≠ .claimChange → pendingCount m n u = pendingCount m n v)

/-- A creation of a repeat of job `j` at `start` reaches no knife position (R96): the ring's serials lie below the next serial (R21),
no final boundary is held (R44), and the new repeat's knife boundary lies ahead of the high-water position. -/
def CreationAheadOfKnife (s : State) (j : JobRecord) (start : Nat) : Prop :=
  (∀ r ∈ s.map.ring, r.serial < s.pos.nextSerial) ∧ (∀ t, s.jobs.tail = some t → t.finalBoundary = none)
    ∧ s.pos.highWater < start + s.jobs.geometry.dCut + j.cutPhase

/-! ### The knife (R98, R101, R103) -/

/-- The lower of two shades in each component (R98, R113). -/
def lowerOf (a b : Shade) : Shade :=
  { lightness := min a.lightness b.lightness, redGreen := min a.redGreen b.redGreen, yellowBlue := min a.yellowBlue b.yellowBlue }

/-- The higher of two shades in each component (R98, R113). -/
def higherOf (a b : Shade) : Shade :=
  { lightness := max a.lightness b.lightness, redGreen := max a.redGreen b.redGreen, yellowBlue := max a.yellowBlue b.yellowBlue }

/-- The value of the roll id counter after `n` rolls took their ids from `first`: it runs from 1 to 2^32 - 1 and wraps to 1 (R99). -/
def rollIdAfter (n first : Nat) : Nat := (first - 1 + n) % (2 ^ 32 - 1) + 1

/-- How many lanes with a number below `n` have a property. -/
def lanesBelow (n : Nat) (p : Lane → Bool) : Nat := (allLanes.filter fun l => decide (laneNumber l < n) && p l).length

/-- Whether the open roll of a lane takes a roll id at the next fold: the lane is WINDING and its roll holds none (R98, R99). -/
def takesIdAtFold (s : State) (l : Lane) : Bool :=
  (s.rolls.lanes.get l).state == .winding && (s.rolls.lanes.get l).roll.rollId.isNone

/-- Whether the open roll of a lane takes a roll id at its close by line reset: it holds repeats and no id (R99, R118). -/
def takesIdAtReset (s : State) (l : Lane) : Bool :=
  (s.rolls.lanes.get l).roll.repeats != 0 && (s.rolls.lanes.get l).roll.rollId.isNone

/-- The open roll `o` of a lane after the fold of repeat `k` (R98, R99), in the ranges of the repeat count and the shade sums; outside
them the values are free (notes/assumptions/3.md). -/
def FoldsInto (k : Repeat) (l : Lane) (o o' : OpenRoll) : Prop :=
  (o.repeats < 65535 → o'.repeats = o.repeats + 1) ∧ o'.length = min (o.length + k.length.getD 0) (2 ^ 32 - 1)
    ∧ o'.firstSerial = (if o.repeats = 0 then some k.serial else o.firstSerial) ∧ o'.lastSerial = some k.serial
    ∧ o'.defects = min (o.defects + ((k.laneEntry l).map (·.defects)).getD 0) 65535
    ∧ o'.plain = min (o.plain + if k.emboss = .plain ∧ k.excluded = false then 1 else 0) 65535
    ∧ o'.excluded = min (o.excluded + if k.excluded = true then 1 else 0) 65535
    ∧ o'.missed = min (o.missed + if k.designated = true ∧ laneSample k l = none then 1 else 0) 65535
    ∧ (laneSample k l = none → o'.samples = o.samples ∧ o'.sums = o.sums ∧ o'.minimum = o.minimum ∧ o'.maximum = o.maximum)
    ∧ (∀ v, laneSample k l = some v → o'.samples = min (o.samples + 1) 65535
        ∧ (inSumRange (o.sums.lightness + v.lightness) = true → o'.sums.lightness = o.sums.lightness + v.lightness)
        ∧ (inSumRange (o.sums.redGreen + v.redGreen) = true → o'.sums.redGreen = o.sums.redGreen + v.redGreen)
        ∧ (inSumRange (o.sums.yellowBlue + v.yellowBlue) = true → o'.sums.yellowBlue = o.sums.yellowBlue + v.yellowBlue)
        ∧ (o.minimum = none → o'.minimum = some v) ∧ (o.maximum = none → o'.maximum = some v)
        ∧ (∀ a, o.minimum = some a → o'.minimum = some (lowerOf a v)) ∧ ∀ a, o.maximum = some a → o'.maximum = some (higherOf a v))
    ∧ o'.rollId.isSome = true ∧ (o.rollId.isSome = true → o'.rollId = o.rollId)
    ∧ o'.job = o.job ∧ o'.merged = o.merged ∧ o'.carriesPrior = o.carriesPrior

/-- The open roll `o` after the closed roll `c` was merged back into it (R113). -/
def MergesInto (c : HistoryEntry) (o o' : OpenRoll) : Prop :=
  o'.repeats = min (o.repeats + c.repeats) 65535 ∧ o'.length = min (o.length + c.lengthCounts) (2 ^ 32 - 1)
    ∧ o'.samples = min (o.samples + c.samples) 65535
    ∧ o'.sums.lightness = max (-(2 ^ 31)) (min (2 ^ 31 - 1) (o.sums.lightness + c.sums.lightness))
    ∧ o'.sums.redGreen = max (-(2 ^ 31)) (min (2 ^ 31 - 1) (o.sums.redGreen + c.sums.redGreen))
    ∧ o'.sums.yellowBlue = max (-(2 ^ 31)) (min (2 ^ 31 - 1) (o.sums.yellowBlue + c.sums.yellowBlue))
    ∧ (o.minimum = none → o'.minimum = c.minimum) ∧ (o.maximum = none → o'.maximum = c.maximum)
    ∧ (c.minimum = none → o'.minimum = o.minimum) ∧ (c.maximum = none → o'.maximum = o.maximum)
    ∧ (∀ a b, o.minimum = some a → c.minimum = some b → o'.minimum = some (lowerOf a b))
    ∧ (∀ a b, o.maximum = some a → c.maximum = some b → o'.maximum = some (higherOf a b))
    ∧ o'.missed = min (o.missed + c.missed) 65535 ∧ o'.defects = min (o.defects + c.defects) 65535
    ∧ o'.plain = min (o.plain + c.plain) 65535 ∧ o'.excluded = min (o.excluded + c.excluded) 65535
    ∧ o'.firstSerial = some c.firstSerial ∧ o'.lastSerial = (if o.repeats = 0 then some c.lastSerial else o.lastSerial)
    ∧ o'.carriesPrior = (o.carriesPrior || c.carriesPrior) ∧ o'.merged = true ∧ o'.rollId = o.rollId ∧ o'.job = o.job

/-- When a reason to cut before repeat `n` applies on a lane whose open roll holds `held` repeats after the fold of `k` (R101). -/
def ReasonApplies (isFinal : Bool) (k : Repeat) (n : Option Repeat) (held nRoll : Nat) (forced : Bool) : CloseReason → Prop
  | .jobEnd => isFinal = true
  | .jobChange => ∃ r, n = some r ∧ r.changePoint = true
  | .zoneStart => k.excluded = false ∧ ∃ r, n = some r ∧ r.excluded = true
  | .zoneEnd => k.excluded = true ∧ ∃ r, n = some r ∧ r.excluded = false
  | .length => nRoll ≤ held
  | .forced => forced = true
  | .lineReset => False

/-- The order of the reasons in the table of R101. -/
def reasonOrder : CloseReason → Nat
  | .jobEnd => 1 | .jobChange => 2 | .zoneStart => 3 | .zoneEnd => 4 | .length => 5 | .forced => 6 | .lineReset => 7

/-- The kind of a roll that a cut closes (R103); a roll that is not merged holds at most n_roll repeats. -/
def KindIs (nRoll mMin : Nat) (o : OpenRoll) (kind : RollKind) : Prop :=
  (o.merged = true → kind = .merged)
    ∧ (o.merged = false → 0 < o.excluded → kind = .stub)
    ∧ (o.merged = false → o.excluded = 0 → o.repeats = nRoll → kind = .standard)
    ∧ (o.merged = false → o.excluded = 0 → mMin ≤ o.repeats → o.repeats < nRoll → kind = .short)
    ∧ (o.merged = false → o.excluded = 0 → o.repeats < mMin → o.repeats < nRoll → kind = .scrap)

/-- The entry `e` holds the accumulators of an open roll as its close finds them (R105, R108). -/
def EntryHolds (o : OpenRoll) (e : HistoryEntry) : Prop :=
  e.rollId = o.rollId.getD 0 ∧ e.job = o.job.getD 0 ∧ e.firstSerial = o.firstSerial.getD 0 ∧ e.lastSerial = o.lastSerial.getD 0
    ∧ e.repeats = o.repeats ∧ e.lengthMm = (o.length + 10) / 20 ∧ e.samples = o.samples ∧ e.sums = o.sums ∧ e.minimum = o.minimum
    ∧ e.maximum = o.maximum ∧ e.missed = o.missed ∧ e.defects = o.defects ∧ e.plain = o.plain ∧ e.excluded = o.excluded
    ∧ e.carriesPrior = o.carriesPrior

/-- The tail job leaves the path when `k` retires: `k` is of it, and no other record of the ring is (R52). -/
def PathCleared (k : Repeat) (s : State) : Prop :=
  (∃ t, s.jobs.tail = some t ∧ t.record.number = k.job) ∧ ∀ r ∈ s.map.ring.drop 1, r.job ≠ k.job

/-! ### The splice lift list and the nip job (R88, R89, R91) -/

/-- The splice lift of the splice repeat `n` with lift lead `lead`: IN_FORCE at once when its start is passed already (R88). -/
def liftPlaced (n : Repeat) (len lead : Nat) (s : State) : SpliceLift :=
  let start : Int := (n.start : Int) + s.jobs.geometry.eNip - lead
  { serial := n.serial, startPos := start, endPos := n.start + s.jobs.geometry.eNip + len,
    state := if start ≤ s.pos.highWater then .inForce else .pending }

/-- The newest entry `old` of a full list after the lift `new` was merged into it (R88). -/
def liftMerged (old new : SpliceLift) (s : State) : SpliceLift :=
  { old with
    startPos := min old.startPos new.startPos
    endPos := max old.endPos new.endPos
    state := if new.startPos < old.startPos ∧ new.startPos ≤ s.pos.highWater then .inForce else old.state }

/-- The embosser of `s` with another splice lift list, after the causes were found again (R84, R89). -/
def embosserWithLifts (lifts : List SpliceLift) (s : State) : EmbossUnit :=
  let cause := s.emboss.hold || lowSpeedCause s || lifts.any fun l => l.state == .inForce
  let p := afterCauses (partSettle s) cause s.emboss.state s.emboss.settleCount
  { s.emboss with lifts := lifts, state := p.1, settleCount := p.2 }

/-- The state and the settle count after the nip job was switched (R91): `old` says whether the old nip job has an embosser, `new` is
the new emboss part, `cause` whether a cause is in force with it. -/
def afterNipSwitch (old : Bool) (new : Option NipPart) (cause : Bool) (state : EmbossState) (count : Nat) : EmbossState × Nat :=
  match new with
  | none => (.none, 0)
  | some p =>
    if old then
      let q := afterCauses p.settle cause state count
      if q.1 = .settling ∧ p.settle < q.2 then (if p.settle = 0 then (.engaged, 0) else (.settling, p.settle)) else q
    else if cause then (.lifted, 0) else if p.settle = 0 then (.engaged, 0) else (.settling, p.settle)

/-- EMBOSS_CHANGE is raised once from `s` to `t` when the state of the embosser differs, and not otherwise (R93). -/
def EmbossNoticed (s t : State) : Prop :=
  (t.emboss.state ≠ s.emboss.state → RaisedOnce .embossChange s t) ∧ (t.emboss.state = s.emboss.state → NotRaised .embossChange s t)

/-- The commands that carry `r` to the part, in the form the link gives them: a whole frame in the bytes gathered in RECEIVING. -/
def receiving (bytes : List Byte) (s : State) : State := s.withLink { s.link with state := .receiving, gathered := bytes }

end Sys2Proof.Machine
end

