-- ==== Sys2Proof/Certificates/Slice0/Obligations.lean ====
section
/-! DEFINITION. The statements for the provers: what the commands and the machine do by the numbered rules. In each, `drain u`
stands for the crossings that the event's own registrations make due, which R2 takes at once, lowest first; EncoderEdgeMovesPositions
says what it takes. `takeDue u` is the same where an input edge may wait that arrived together with them (notes/assumptions/22.md),
and `takeRefEnds n u` is the SYNTH repeats of window ends passed already when a mark registered them (R9). Answer bytes are those
of the layouts (R193 to R197, with the readings of notes/assumptions/9.md). -/

open Sys2Proof Sys2Proof.Machine

/-! ### The step -/

/-- A step takes the command at the front of the queue with the queue's rest; with an empty queue it idles, which is the model's
choice (notes/assumptions/8.md). -/
def Obligations.StepTakesFrontCommand : Prop :=
  (∀ (s : State) (c : Instr) (rest : List Instr), s.pending = c :: rest → step s = exec c (s.withPending rest))
    ∧ ∀ s : State, s.pending = [] → step s = .next s

/-- Every command answers a next state, in every state, and leaves the queue of waiting commands as it was. -/
def Obligations.EveryCommandAnswers : Prop :=
  ∀ (c : Instr) (s : State), ∃ t, exec c s = .next t ∧ t.pending = s.pending

/-! ### Line position and the repeat clock -/

/-- ENCODER_EDGE (R1, R2; notes/assumptions/5.md, 6.md). The line position moves one count in the direction that the level of the other signal shows, held at
both ends of its range; the high-water position follows it upward. Which signal leads in forward travel is the model's wiring
field (notes/assumptions/2.md). When the edge reaches no registered position, nothing else changes. When it raises the high-water
position, the crossings that this reaches are taken, unless an input edge waits that arrived together with them
(notes/assumptions/22.md): with nothing due nothing happens, and when one crossing has the lowest due position, it is taken first,
as an event of its own, and then what is due. That due crossings are taken lowest first is the model's reading of R2, which
notes/assumptions/5.md logs, and that each is an event of its own is its reading of R2 and R89, which notes/assumptions/6.md logs. -/
def Obligations.EncoderEdgeMovesPositions : Prop :=
  (∀ (s : State) (e : EncoderEdge), PositionSound s → s.pins.resetLow = false →
    ∃ t, exec (.encoderEdge e) s = .next t
      ∧ (∀ level other, e = .onA level other →
          t.pos.linePos = if (level != other) = s.model.aLeadsForward then min (s.pos.linePos + 1) (2 ^ 48 - 1) else s.pos.linePos - 1)
      ∧ (∀ level other, e = .onB level other →
          t.pos.linePos = if (level == other) = s.model.aLeadsForward then min (s.pos.linePos + 1) (2 ^ 48 - 1) else s.pos.linePos - 1)
      ∧ (e = .together → t = s)
      ∧ t.pos.highWater = max s.pos.highWater t.pos.linePos
      ∧ ((∀ c ∈ registered s, (s.pos.highWater : Int) + 1 < c.1) →
          t = s.withPos { s.pos with linePos := t.pos.linePos, highWater := t.pos.highWater })
      ∧ (t.pos.linePos ≤ s.pos.highWater → t = s.withPos { s.pos with linePos := t.pos.linePos })
      ∧ (s.pos.highWater < t.pos.linePos → inputWaits s = false →
          t = drain (s.withPos { s.pos with linePos := t.pos.linePos, highWater := t.pos.linePos })))
    ∧ (∀ u : State, (∀ c ∈ registered u, (u.pos.highWater : Int) < c.1) → drain u = u)
    ∧ (∀ (u : State) (p : Int) (c : Crossing), (p, c) ∈ registered u → p ≤ u.pos.highWater →
        (∀ q d, (q, d) ∈ registered u → (q, d) ≠ (p, c) → p < q) → (registered u).count (p, c) = 1 →
        ∃ n, drainBound u = n + 1 ∧ drain u = drainFuel n (asEvent (takeCrossing c) u))

/-- INTERVAL_TIMER (R3, R84, R87). The measured speed is set from the high-water advance, a new interval begins, and the embosser
moves as the low-speed cause then asks; nothing else changes. -/
def Obligations.IntervalTimerSetsSpeed : Prop :=
  ∀ s : State, s.pins.resetLow = false → s.model.embossNoticed = false →
    let v := min ((s.pos.highWater - s.pos.intervalStart) * 3 / 10) 4000
    let low := match s.emboss.part with
      | none => false
      | some p => decide (v < p.minSpeed)
    let cause := s.emboss.hold || low || s.emboss.lifts.any fun l => l.state == .inForce
    exec .intervalTimer s = .next
      (embossAt (afterCauses ((s.emboss.part.map (·.settle)).getD 0) cause s.emboss.state s.emboss.settleCount)
        (s.withPos { s.pos with speed := v, intervalStart := s.pos.highWater }))

/-- STROBE_END (R102). The lane's knife output goes low, and nothing else changes. -/
def Obligations.StrobeEndLowersKnife : Prop :=
  ∀ (s : State) (l : Lane), s.pins.resetLow = false →
    ∃ t, exec (.strobeEnd l) s = .next t ∧ t.pins.knives.get l = false
      ∧ (∀ l', l' ≠ l → t.pins.knives.get l' = s.pins.knives.get l') ∧ t.pins.resetLow = false ∧ t.withPins s.pins = s

/-- REFERENCE_MARK that creates no repeat (R5, R8): ignored in IDLE; outside the expected window it adds one to the stray count,
up to 65535, and changes nothing else. -/
def Obligations.ReferenceMarkIgnoredOrStray : Prop :=
  ∀ s : State, s.pins.resetLow = false → s.model.embossNoticed = false → Settled s →
    (s.pos.ref.state = .idle → exec .referenceMark s = .next s)
      ∧ ∀ (j : JobRecord) (p : Nat), ReferenceRuns s → creatingJob s = some j → s.pos.ref.newestStart = some p →
          (s.pos.linePos + j.halfWindow < p + j.length ∨ p + j.length + j.halfWindow < s.pos.linePos) →
          exec .referenceMark s = .next
            (s.withPos { s.pos with ref := { s.pos.ref with strays := min (s.pos.ref.strays + 1) 65535 } })

/-- REFERENCE_MARK in SEEKING (R6, R11, R47). The first repeat of the path is MARKED at the line position with error 0, belongs to
the armed job, which becomes the head job, and carries the change-point flag; the reference is LOCKED; JOB_SWITCHED is raised. The
path is empty in SEEKING (R5, R45; an invariant that the steps keep). Window ends that are passed already when they are registered
follow, each an event of its own (R9). -/
def Obligations.FirstMarkCreatesRepeat : Prop :=
  ∀ (s : State) (j : JobRecord), s.pins.resetLow = false → s.pos.ref.state = .seeking → armedJob s = some j →
    s.map.ring = [] → s.jobs.tail = none →
    ∃ u, exec .referenceMark s = .next (takeDue (takeRefEnds (drainBound s) u))
      ∧ u.pos.ref = { state := .locked, newestStart := some s.pos.linePos, synthRun := 0, lastError := 0, strays := s.pos.ref.strays }
      ∧ u.jobs.head = some { record := j, firstSerial := s.pos.nextSerial } ∧ u.jobs.staged = none
      ∧ CreatesRepeat s j s.pos.linePos .marked (.matched 0) u ∧ StationsMeet s j s.pos.linePos .marked u
      ∧ (s.pos.highWater < s.pos.linePos + j.length + j.halfWindow → takeRefEnds (drainBound s) u = u)

/-- REFERENCE_MARK inside the window in LOCKED, COASTING or LOST (R7, R10, R11, R15 to R17, R22, R23, R121). A MARKED repeat starts at
the line position with error t - (p + R); the previous repeat takes its length, and the splice list is resolved against its span;
from LOST the REF claim is released and REF_LOCKED raised. The creation is stated where it reaches no knife position (R96), as in
every state in which the window is still open, and where it reaches that of the record before it. There the stations take up the
new record before the knife acts, so that each has decided the retired record, and switched at the change point, first (R31, R62;
logged in notes/assumptions/23.md, with the order of the units that the model chose). -/
def Obligations.MarkInWindowCreatesRepeat : Prop :=
  ∀ (s : State) (j : JobRecord) (p : Nat), s.pins.resetLow = false → ReferenceRuns s → creatingJob s = some j →
    s.pos.ref.newestStart = some p → p + j.length ≤ s.pos.linePos + j.halfWindow → s.pos.linePos ≤ p + j.length + j.halfWindow →
    let err : Int := (s.pos.linePos : Int) - (p + j.length)
    ∃ u, exec .referenceMark s = .next (takeDue (takeRefEnds (drainBound s) u))
      ∧ u.pos.ref = { state := .locked, newestStart := some s.pos.linePos, synthRun := 0, lastError := err, strays := s.pos.ref.strays }
      ∧ (s.pos.ref.state = .lost → u.speed.slots.get .ref = none ∧ RaisedOnce .refLocked s u)
      ∧ (s.pos.ref.state ≠ .lost → u.speed.slots.get .ref = s.speed.slots.get .ref ∧ NotRaised .refLocked s u)
      ∧ (CreationAheadOfKnife s j s.pos.linePos →
          CreatesRepeat s j s.pos.linePos .marked (.matched err) u ∧ StationsMeet s j s.pos.linePos .marked u)
      ∧ (∀ r, CreationReachesKnife s j s.pos.linePos r → CreatesPastKnife s j s.pos.linePos .marked (.matched err) u)
      ∧ (s.pos.highWater < s.pos.linePos + j.length + j.halfWindow → takeRefEnds (drainBound s) u = u)

/-- The window end crossing (R9, R10, R11, R15 to R17, R22, R23, R121): a SYNTH repeat at p + R with result MISSED, which its stations
skip; the synth run rises, and the state follows from it and the miss limit; entering LOST raises the REF claim at level 6 with
REF_LOST, and a new head job in LOST sets its speed. The creation is stated where it reaches no knife position (R96), and where it
reaches that of the record before it, as SYNTH repeats on web that was backed up past the knife do. There the stations take up the
new record before the knife acts, so that each has decided the retired record, and switched at the change point, first (R31, R62;
logged in notes/assumptions/23.md, with the order of the units that the model chose). -/
def Obligations.WindowEndCreatesSynth : Prop :=
  ∀ (s : State) (j : JobRecord) (p : Nat), ReferenceRuns s → creatingJob s = some j → s.pos.ref.newestStart = some p →
    let run := min 255 (s.pos.ref.synthRun + 1)
    let u := refWindowEnd s
    u.pos.ref = { state := if s.pos.ref.state = .lost then .lost else if run < j.missLimit then .coasting else .lost,
                  newestStart := some (p + j.length), synthRun := run, lastError := s.pos.ref.lastError, strays := s.pos.ref.strays }
      ∧ (s.pos.ref.state ≠ .lost → j.missLimit ≤ run →
          u.speed.slots.get .ref = some { level := 6, speed := j.recoverySpeed } ∧ RaisedOnce .refLost s u)
      ∧ (s.pos.ref.state = .lost ∨ run < j.missLimit → NotRaised .refLost s u)
      ∧ (s.pos.ref.state = .lost → (armedJob s).isSome = true →
          u.speed.slots.get .ref = some { level := 6, speed := j.recoverySpeed })
      ∧ (s.pos.ref.state = .lost → armedJob s = none → u.speed.slots.get .ref = s.speed.slots.get .ref)
      ∧ (s.pos.ref.state ≠ .lost → run < j.missLimit → u.speed.slots.get .ref = s.speed.slots.get .ref)
      ∧ (CreationAheadOfKnife s j (p + j.length) →
          CreatesRepeat s j (p + j.length) .synth .missed u ∧ StationsMeet s j (p + j.length) .synth u)
      ∧ (∀ r, CreationReachesKnife s j (p + j.length) r → CreatesPastKnife s j (p + j.length) .synth .missed u)

/-- SPLICE_EDGE whose position lies in no known span (R13, R14): discarded without a head job, before the oldest record, or when
the position is held already; otherwise entered in ascending order while the list holds fewer than 4; otherwise discarded with
SPLICE_LIST_FULL. A position in the span of a repeat that is flagged already changes nothing. -/
def Obligations.SpliceEdgeEntersList : Prop :=
  ∀ s : State, s.pins.resetLow = false → s.model.embossNoticed = false → Settled s →
    let p := s.pos.linePos + s.jobs.geometry.dSp
    (s.jobs.head = none → exec .spliceEdge s = .next s)
      ∧ (∀ n, s.jobs.head.isSome = true → s.map.ring.find? (inSpan p) = some n → n.splice = true → exec .spliceEdge s = .next s)
      ∧ (s.jobs.head.isSome = true → (∀ r ∈ s.map.ring, inSpan p r = false) →
          ((∃ r, oldestRepeat s = some r ∧ p < r.start) → exec .spliceEdge s = .next s)
          ∧ ((∀ r, oldestRepeat s = some r → r.start ≤ p) →
              (p ∈ s.pos.splices → exec .spliceEdge s = .next s)
              ∧ (p ∉ s.pos.splices → s.pos.splices.length < 4 →
                  ∃ l, exec .spliceEdge s = .next (s.withPos { s.pos with splices := l }) ∧ l.Perm (p :: s.pos.splices)
                    ∧ (s.pos.splices.Pairwise (· ≤ ·) → l.Pairwise (· ≤ ·)))
              ∧ (p ∉ s.pos.splices → 4 ≤ s.pos.splices.length →
                  exec .spliceEdge s = .next (raiseNotice .spliceListFull s))))

/-- SPLICE_EDGE in the span of a known repeat n (R14, R16, R64, R88): n is flagged a splice repeat, the zone from b before it to a
after it is excluded, the extent moves when the zone reaches past the newest repeat, and SPLICE_SEEN is raised. No other flag
changes. The stations then test the record at their cursor again (R64), in ascending order by the model's choice
(notes/assumptions/23.md): a station at rest on a record that is now skipped writes SKIPPED, its window and its deferred miss go,
and it moves on as StationMissMovesState says; one in a window on a record that is not skipped, and one that waits, stay. For an
embossing job whose end position lies ahead, a splice lift is entered in serial order, or merged into the newest entry of a full
list; one whose start is passed already is IN_FORCE at once, and the embosser moves as the causes then ask (R84, R93). -/
def Obligations.SpliceEdgeFlagsRepeat : Prop :=
  ∀ (s : State) (n : Repeat) (j : JobRecord), s.pins.resetLow = false → s.jobs.head.isSome = true →
    s.map.ring.find? (inSpan (s.pos.linePos + s.jobs.geometry.dSp)) = some n → n.splice = false → jobOf n.job s = some j →
    let newest := (newestSerial s).getD 0
    ∃ u, exec .spliceEdge s = .next (takeDue u)
      ∧ u.map.ring.map Repeat.printed = (s.map.ring.map (zoneFlagged n.serial j)).map Repeat.printed
      ∧ u.map.extent = extentReached n.serial j s.map.extent newest
      ∧ RaisedOnce .spliceSeen s u ∧ EmbossNoticed s u ∧ u.pos = s.pos ∧ u.jobs = s.jobs ∧ u.rolls = s.rolls ∧ u.shade = s.shade
      ∧ u.labels = s.labels ∧ u.pins = s.pins
      ∧ (∃ v,
          let w := allStations.foldl (fun x st => restStation st x) v
          v.register = s.register ∧ v.speed = s.speed ∧ v.pos = s.pos ∧ v.jobs = s.jobs
            ∧ v.map = { s.map with ring := s.map.ring.map (zoneFlagged n.serial j), extent := extentReached n.serial j s.map.extent newest }
            ∧ (∀ k, k ≠ .spliceSeen → k ≠ .embossChange → NotRaised k s v)
            ∧ u = (grantNoticed s w).withModel u.model)
      ∧ (∀ st rec, cursorRepeat st s = some rec → (s.register.get st).job = some rec.job → rec.results.get st = .pending →
          let r0 := s.register.get st
          let skips := (zoneFlagged n.serial j rec).excluded = true ∨ rec.origin = .synth
            ∨ (st = .s7 ∧ rec.emboss ≠ .pending ∧ rec.emboss ≠ .embossed)
          (skips → (∀ r ∈ u.map.ring, r.serial = rec.serial → r.results.get st = .skipped)
              ∧ (findRepeat (rec.serial + 1) s = none →
                  u.register.get st = { r0 with cursor := some (rec.serial + 1), window := none, deferredMiss := false }))
            ∧ (¬skips → r0.window.isSome = true → u.register.get st = r0
                ∧ ∀ r ∈ u.map.ring, r.serial = rec.serial → r.results.get st = .pending))
      ∧ (∀ st, cursorRepeat st s = none → u.register.get st = s.register.get st)
      ∧ (j.emboss = none → u.emboss = s.emboss)
      ∧ ∀ e len, j.emboss = some e → n.length = some len →
          let l := liftPlaced n len e.lead s
          (l.endPos ≤ s.pos.highWater → u.emboss = s.emboss)
          ∧ (s.pos.highWater < l.endPos →
              u.emboss = embosserWithLifts u.emboss.lifts s
              ∧ (s.emboss.lifts.length < 8 → u.emboss.lifts.Perm (l :: s.emboss.lifts)
                  ∧ (s.emboss.lifts.Pairwise (fun a b => a.serial ≤ b.serial) → u.emboss.lifts.Pairwise (fun a b => a.serial ≤ b.serial)))
              ∧ (8 ≤ s.emboss.lifts.length → ∀ old, s.emboss.lifts.getLast? = some old →
                  u.emboss.lifts = s.emboss.lifts.dropLast ++ [liftMerged old l s]))

/-! ### Register control -/

/-- STATION_MARK that matches nothing (R65, R66): ignored by an OFF station; otherwise a stray while the cursor waits, while station
7's record has its emboss status PENDING, or outside the window. A stray adds one to the stray count, up to 65535, alone. -/
def Obligations.StationMarkStray : Prop :=
  ∀ (s : State) (st : Station), s.pins.resetLow = false → s.model.embossNoticed = false → Settled s →
    let r := s.register.get st
    (r.state = .off → exec (.stationMark st) s = .next s)
      ∧ (r.state ≠ .off →
          (cursorRepeat st s = none ∨ (∃ rec, cursorRepeat st s = some rec ∧ st = .s7 ∧ rec.emboss = .pending)
            ∨ ∃ w, r.window = some w ∧ (s.pos.linePos + w.halfWidth < w.centre ∨ w.centre + w.halfWidth < s.pos.linePos)) →
          exec (.stationMark st) s = .next
            (s.withRegister (s.register.set st { r with strayCount := min (r.strayCount + 1) 65535 })))

/-- STATION_MARK inside the window (R68, R70, R75): the record is MATCHED with error t - E, the station is TRACKING with the error, its
counts and its teach-ready flag set, and the trim is updated when the measured speed allows it. On leaving LOST, REG is set
again for the stations still LOST, or released. The cursor then moves on over the record, its window dropped (R29), and comes to
rest at the next (R63): in a window, at a switch of job, or waiting when there is none. -/
def Obligations.StationMarkMatches : Prop :=
  ∀ (s : State) (st : Station) (rec : Repeat) (w : Window) (j : JobRecord) (e : StationEntry), s.pins.resetLow = false →
    s.model.embossNoticed = false →
    (s.register.get st).state ≠ .off → cursorRepeat st s = some rec → (s.register.get st).window = some w →
    w.centre ≤ s.pos.linePos + w.halfWidth → s.pos.linePos ≤ w.centre + w.halfWidth → (st = .s7 → rec.emboss ≠ .pending) →
    stationJob st s = some j → j.entry st = some e →
    let err : Int := (s.pos.linePos : Int) - w.centre
    let r0 := s.register.get st
    let r1 := { r0 with state := .tracking, lastError := err, matchCount := min (r0.matchCount + 1) 65535, teachReady := true,
                        missRun := 0, deferredMiss := false }
    let r2 := if s.pos.speed < j.registerMinSpeed then r1 else trimUpdate e err r1
    ∃ v, exec (.stationMark st) s = .next (takeDue (grantNoticed s (restStation st v)))
      ∧ v = ((s.withMap v.map).withRegister v.register).withSpeed v.speed
      ∧ v.register = s.register.set st { r2 with cursor := r0.cursor.map (· + 1), window := none }
      ∧ v.map = { s.map with ring := s.map.ring.map fun r =>
          if r.serial = rec.serial then { r with results := r.results.set st (.matched err) } else r }
      ∧ (r0.state ≠ .lost → v.speed = s.speed) ∧ (r0.state = .lost → RegSetAgain s v)
      ∧ (findRepeat (rec.serial + 1) s = none → restStation st v = v)

/-- A station's window end crossing (R69, R74, R75): the record is MISSED, the miss run and the miss count rise, the trim and the last
error are held, and the state follows from the miss run and the miss limit; an entry into LOST raises STATION_LOST and sets REG.
The cursor moves on and comes to rest (R29, R61 to R65): at another job's record the station carries its trim over, clamped again
to the new C_max, or goes OFF; it moves over decided records and skips excluded, SYNTH and unembossed ones; at a record that stays
PENDING it places its window, and a window end passed already is missed at once, or deferred at station 7. -/
def Obligations.StationMissMovesState : Prop :=
  (∀ (s : State) (st : Station) (rec : Repeat) (j : JobRecord), cursorRepeat st s = some rec → stationJob st s = some j →
    let r0 := s.register.get st
    let run := min 255 (r0.missRun + 1)
    let enters := (r0.state = .armed ∨ r0.state = .holding) ∧ j.missLimit ≤ run
    ((st = .s7 ∧ rec.emboss = .pending) → stationWindowEnd st s = s.withRegister (s.register.set st { r0 with deferredMiss := true }))
      ∧ (¬(st = .s7 ∧ rec.emboss = .pending) → stationWindowEnd st s = restStation st (missRecord st rec s))
      ∧ let v := missRecord st rec s
        v.register = s.register.set st
          { r0 with state := if enters then .lost else if r0.state = .tracking then .holding else r0.state, missRun := run,
                    missCount := min (r0.missCount + 1) 65535, cursor := r0.cursor.map (· + 1), window := none }
        ∧ v.map = { s.map with ring := s.map.ring.map fun r =>
            if r.serial = rec.serial then { r with results := r.results.set st .missed } else r }
        ∧ (enters → RaisedOnce .stationLost s v ∧ RegSetAgain s v)
        ∧ (¬enters → v.link = s.link ∧ v.speed = s.speed))
    ∧ (∀ (s : State) (st : Station), cursorRepeat st s = none → restStation st s = s)
    ∧ ∀ (s : State) (st : Station) (rec : Repeat), cursorRepeat st s = some rec →
        let r0 := s.register.get st
        let skips := rec.excluded = true ∨ rec.origin = .synth ∨ (st = .s7 ∧ rec.emboss ≠ .pending ∧ rec.emboss ≠ .embossed)
        let further := settleStation st (2 * s.map.ring.length + 1)
        (r0.job ≠ some rec.job → ∃ v, restStation st s = further v
          ∧ (∀ j e, jobOf rec.job s = some j → j.entry st = some e →
              let r1 := publishTrim e.trimLimit r0.accumulator { r0 with job := some rec.job, teachReady := false }
              let enters := (r0.state = .armed ∨ r0.state = .holding) ∧ j.missLimit ≤ r0.missRun
              v.register = s.register.set st (if enters then { r1 with state := .lost } else r1)
                ∧ (enters → RaisedOnce .stationLost s v) ∧ (¬enters → v.link = s.link)
                ∧ (enters ∨ r0.state = .lost → RegSetAgain s v) ∧ (¬enters → r0.state ≠ .lost → v.speed = s.speed))
          ∧ ((∀ j, jobOf rec.job s = some j → j.entry st = none) →
              v.register = s.register.set st StationRecord.off ∧ v.link = s.link
                ∧ (r0.state = .lost → RegSetAgain s v) ∧ (r0.state ≠ .lost → v.speed = s.speed)))
        ∧ (r0.job = some rec.job → rec.results.get st ≠ .pending →
            restStation st s = further (s.withRegister (s.register.set st { r0 with cursor := r0.cursor.map (· + 1), window := none })))
        ∧ (r0.job = some rec.job → rec.results.get st = .pending → skips →
            ∃ v, restStation st s = further v
              ∧ v = (s.withMap v.map).withRegister (s.register.set st
                  { r0 with cursor := r0.cursor.map (· + 1), window := none, deferredMiss := false })
              ∧ v.map = { s.map with ring := s.map.ring.map fun r =>
                  if r.serial = rec.serial then { r with results := r.results.set st .skipped } else r })
        ∧ (r0.job = some rec.job → rec.results.get st = .pending → ¬skips → r0.window.isSome = true → restStation st s = s)
        ∧ ∀ j e, r0.job = some rec.job → rec.results.get st = .pending → ¬skips → r0.window = none → stationJob st s = some j →
            j.entry st = some e →
            let half := if r0.state = .lost then j.length / 2 - 1 else j.halfWindow
            let r1 := { r0 with window := some { centre := rec.start + e.offset, halfWidth := half } }
            let placed := s.withRegister (s.register.set st r1)
            (s.pos.highWater < rec.start + e.offset + half → restStation st s = placed)
              ∧ (rec.start + e.offset + half ≤ s.pos.highWater →
                  (¬(st = .s7 ∧ rec.emboss = .pending) → restStation st s = further (missRecord st rec placed))
                  ∧ ((st = .s7 ∧ rec.emboss = .pending) →
                      restStation st s = s.withRegister (s.register.set st { r1 with deferredMiss := true })))

/-- The trim arithmetic. A published trim (R61 steps 1 to 4, R71 steps 3 to 6): A is clamped to the guard limit, T_raw is A / 256
rounded half away from zero, T is T_raw held to C_max, SAT says whether it was held, and the sequence rises, modulo 65536, exactly
when T changes; T never exceeds C_max and A never exceeds the guard limit after it. The trim update (R71): nothing inside the
deadband, and otherwise the trim is published from A moved by -K e. -/
def Obligations.TrimUpdateArithmetic : Prop :=
  (∀ (limit : Nat) (a : Int) (r : StationRecord),
    let r' := publishTrim limit a r
    let c : Int := limit
    let g : Int := (c + 64) * 256
    ∃ raw : Int, r'.accumulator = max (-g) (min g a)
      ∧ raw.natAbs = (r'.accumulator.natAbs + 128) / 256 ∧ 0 ≤ raw * r'.accumulator
      ∧ r'.trim = max (-c) (min c raw)
      ∧ (r'.saturated = true ↔ r'.trim ≠ raw)
      ∧ r'.trimSeq = (if r'.trim = r.trim then r.trimSeq else (r.trimSeq + 1) % 65536)
      ∧ -c ≤ r'.trim ∧ r'.trim ≤ c ∧ -g ≤ r'.accumulator ∧ r'.accumulator ≤ g
      ∧ r' = { r with accumulator := r'.accumulator, trim := r'.trim, saturated := r'.saturated, trimSeq := r'.trimSeq })
    ∧ ∀ (e : StationEntry) (err : Int) (r : StationRecord),
        (err.natAbs ≤ e.deadband → trimUpdate e err r = r)
          ∧ (e.deadband < err.natAbs → trimUpdate e err r = publishTrim e.trimLimit (r.accumulator - e.gain * err) r)

/-- The sampling generator's step (R120): every bit moves up, the former bit 9 is dropped, and the new bit 0 is the exclusive-or
of the former bits 9 and 6; a value other than 0 steps to a value other than 0, and no two values step to the same value. -/
def Obligations.GeneratorStepsOnce : Prop :=
  (∀ g : BitVec 10, (stepGenerator g).toNat = 2 * g.toNat % 1024 + (if g.getLsbD 9 = g.getLsbD 6 then 0 else 1))
    ∧ (∀ g : BitVec 10, g ≠ 0 → stepGenerator g ≠ 0)
    ∧ ∀ g h : BitVec 10, stepGenerator g = stepGenerator h → g = h

/-! ### Embossing -/

/-- The nip (R64, R65, R85, R89 to R91). At a record's nip crossing the IN_FORCE lifts that end there are removed and the causes are found again;
then the status is written: NONE without an embosser, EMBOSSED in ENGAGED and PLAIN otherwise, from the state that follows; in
SETTLING the settle count falls by one, to ENGAGED at 0; the nip cursor moves on and comes to rest: at a change point the nip job
is switched, a crossing still ahead is registered, and one passed already is taken at once (R2). Station 7, whose cursor rests on
the record, is handed the status at the same event: a record not EMBOSSED, excluded or SYNTH is SKIPPED and the cursor comes to rest
further on; EMBOSSED with the deferred miss set is MISSED, and otherwise keeps its window; the deferred miss is cleared. A lift's start makes it IN_FORCE, and an end that is a crossing of its own
removes it; both find the causes again. EMBOSS_CHANGE is raised when the state moves (R93). -/
def Obligations.NipWritesStatus : Prop :=
  (∀ (s : State) (rec : Repeat), findRepeat s.map.nipCursor s = some rec → s.model.embossNoticed = false →
    let embosses := ((jobOf rec.job s).bind (·.emboss)).isSome
    let endsHere (l : SpliceLift) : Bool := l.state == .inForce && l.endPos == rec.start + s.jobs.geometry.eNip && !endsAlone s l
    let e1 := if s.emboss.lifts.any endsHere then embosserWithLifts (s.emboss.lifts.filter fun l => !endsHere l) s else s.emboss
    let settles := embosses = true ∧ e1.state = .settling
    let status := if embosses then (if e1.state = .engaged then EmbossStatus.embossed else .plain) else .none
    let written := s.map.ring.map fun r => if r.serial = rec.serial then { r with emboss := status } else r
    let r7 := s.register.get .s7
    let skips := rec.excluded = true ∨ rec.origin = .synth ∨ status ≠ .embossed
    let v := passNip rec s
    nipCrossing s = restNip v
      ∧ (∀ r ∈ v.map.ring, r.serial = rec.serial → r.emboss = status)
      ∧ v.map.nipCursor = s.map.nipCursor + 1
      ∧ v.emboss = { e1 with
          settleCount := if settles then e1.settleCount - 1 else e1.settleCount
          state := if settles ∧ e1.settleCount ≤ 1 then .engaged else e1.state
          nipReg := none }
      ∧ EmbossNoticed s v
      ∧ (r7.cursor ≠ some rec.serial →
          v.register = s.register ∧ v.map = { s.map with nipCursor := s.map.nipCursor + 1, ring := written })
      ∧ (r7.cursor = some rec.serial → r7.job = some rec.job → rec.results.get .s7 = .pending →
          (¬skips → r7.deferredMiss = false →
              v.register = s.register ∧ v.map = { s.map with nipCursor := s.map.nipCursor + 1, ring := written })
          ∧ (¬skips → r7.deferredMiss = true →
              ∃ w, v = restStation .s7 (missRecord .s7 { rec with emboss := status } w)
                ∧ w.register = s.register.set .s7 { r7 with deferredMiss := false }
                ∧ w.map = { s.map with nipCursor := s.map.nipCursor + 1, ring := written } ∧ w.jobs = s.jobs)
          ∧ (skips →
              ∃ w, v = settleStation .s7 (2 * s.map.ring.length + 1) w
                ∧ w.register = s.register.set .s7 { r7 with cursor := some (rec.serial + 1), window := none, deferredMiss := false }
                ∧ w.map = { s.map with nipCursor := s.map.nipCursor + 1, ring := written.map fun r =>
                    if r.serial = rec.serial then { r with results := r.results.set .s7 .skipped } else r }
                ∧ w.jobs = s.jobs)))
    ∧ (∀ s : State, findRepeat s.map.nipCursor s = none → restNip s = s.withEmboss { s.emboss with nipReg := none })
    ∧ (∀ (s : State) (rec : Repeat), findRepeat s.map.nipCursor s = some rec →
        s.pos.highWater < rec.start + s.jobs.geometry.eNip →
        ∃ v, restNip s = v.withEmboss { v.emboss with nipReg := some (rec.start + s.jobs.geometry.eNip) }
          ∧ (rec.changePoint = false → v = s) ∧ (rec.changePoint = true → v = switchNipJob rec s))
    ∧ (∀ (s : State) (rec : Repeat), findRepeat s.map.nipCursor s = some rec →
        rec.start + s.jobs.geometry.eNip ≤ s.pos.highWater →
        (rec.changePoint = false → restNip s = restNip (passNip rec s))
          ∧ (rec.changePoint = true → restNip s = restNip (passNip rec (switchNipJob rec s))))
    ∧ (∀ (s : State) (rec : Repeat), s.model.embossNoticed = false →
        let new := (jobOf rec.job s).bind (·.emboss) |>.map fun e => ({ settle := e.settle, minSpeed := e.minSpeed } : NipPart)
        let low := match new with
          | none => false
          | some p => decide (s.pos.speed < p.minSpeed)
        let cause := s.emboss.hold || low || s.emboss.lifts.any fun l => l.state == .inForce
        let p := afterNipSwitch s.emboss.part.isSome new cause s.emboss.state s.emboss.settleCount
        (switchNipJob rec s).emboss = { s.emboss with nipJob := some rec.job, part := new, state := p.1, settleCount := p.2 }
          ∧ EmbossNoticed s (switchNipJob rec s))
    ∧ (∀ (s : State) (n : Nat), s.model.embossNoticed = false →
        (liftStart n s).emboss
            = embosserWithLifts (s.emboss.lifts.map fun l => if l.serial = n then { l with state := .inForce } else l) s
          ∧ EmbossNoticed s (liftStart n s))
    ∧ ∀ (s : State) (n : Nat), s.model.embossNoticed = false →
        let ends (l : SpliceLift) : Bool := l.state == .inForce && l.serial == n
        (s.emboss.lifts.any ends = true → (liftEnd n s).emboss = embosserWithLifts (s.emboss.lifts.filter fun l => !ends l) s)
          ∧ (s.emboss.lifts.any ends = false → liftEnd n s = s) ∧ EmbossNoticed s (liftEnd n s)

/-- EMBOSS_HOLD and EMBOSS_RELEASE (R84, R86): the hold flag is set or cleared, the embosser moves as the causes then ask, and the
answer gives the state after the request. -/
def Obligations.EmbossHoldAndRelease : Prop :=
  ∀ (s : State) (tag : Byte), Ready s →
    let settle := (s.emboss.part.map (·.settle)).getD 0
    let held := afterCauses settle true s.emboss.state s.emboss.settleCount
    let freed := afterCauses settle (lowSpeedCause s || spliceCause s) s.emboss.state s.emboss.settleCount
    exec (.embossHold .line tag) s = .next (answered .line .embossHold tag .ok (bytesOf 1 (embossStateCode held.1))
        (embossAt held (s.withEmboss { s.emboss with hold := true })))
      ∧ exec (.embossRelease .line tag) s = .next (answered .line .embossRelease tag .ok (bytesOf 1 (embossStateCode freed.1))
        (embossAt freed (s.withEmboss { s.emboss with hold := false })))

/-! ### Lanes, rolls and the knife -/

/-- The knife crossing (R97 to R104, R106, R107, R31, R52). Every WINDING lane folds repeat k into its open roll. A roll without a
roll id takes one, in ascending lane order: the first of them has the counter's value, and the counter rises by one for each,
wrapping from 2^32 - 1 to 1 (R99; its range is an invariant that the steps keep). The lane then decides: it cuts with the first reason of the table that applies, with a strobe, its forced flag cleared, and the folded roll
closed with its kind; without a reason it winds on. The web map retires k. When no repeat of the tail job is left, its slot
empties with JOB_CLEAR, its stations go OFF, its batches close, and without a head job the splice positions are dropped (R18, R62,
R141). At a change point the lanes take up its job, and at a final position they go IDLE. The repeat counts stay within their 16
bits here. The next registration then follows, taken at once when it is passed already (R96). What the knife does is stated for
either kind of registration, whether it was crossed or counted as crossed when it was registered. -/
def Obligations.KnifeFoldsAndRetires : Prop :=
  ∀ (s : State) (kind : KnifeKind) (kj : KnifeJob) (k : Repeat), s.rolls.knifeJob = some kj →
    findRepeat s.map.knifeCursor s = some k → (∀ l, (s.rolls.lanes.get l).roll.repeats < 65535) →
    let isFinal := kind == .finalPosition
    let n := if isFinal then none else findRepeat (k.serial + 1) s
    let switches := ∃ r, n = some r ∧ r.changePoint = true
    let v := actAtKnife kind k s
    (∀ reg, s.rolls.knifeReg = some reg → reg.kind = kind → knifeCrossing s = restKnife v)
      ∧ ((∀ r, dueKnifeReg v = some r → v.pos.highWater < r.position) → restKnife v = placeKnife v)
      ∧ (∀ r k', dueKnifeReg v = some r → findRepeat v.map.knifeCursor v = some k' → r.position ≤ v.pos.highWater →
          restKnife v = restKnife (actAtKnife r.kind k' v))
      ∧ (∀ l, (s.rolls.lanes.get l).state = .winding →
          let r0 := s.rolls.lanes.get l
          ∃ o', FoldsInto k l r0.roll o'
            ∧ (r0.roll.rollId = none → 1 ≤ s.rolls.nextRollId → s.rolls.nextRollId ≤ 2 ^ 32 - 1 →
                o'.rollId = some (rollIdAfter (lanesBelow (laneNumber l) (takesIdAtFold s)) s.rolls.nextRollId))
            ∧ ((∀ reason, ¬ReasonApplies isFinal k n o'.repeats kj.standardRepeats r0.forced reason) →
                v.rolls.lanes.get l = { r0 with roll := o' } ∧ v.pins.knives.get l = s.pins.knives.get l)
            ∧ ∀ reason, ReasonApplies isFinal k n o'.repeats kj.standardRepeats r0.forced reason →
                (∀ other, ReasonApplies isFinal k n o'.repeats kj.standardRepeats r0.forced other → reasonOrder reason ≤ reasonOrder other) →
                v.pins.knives.get l = true ∧ (v.rolls.lanes.get l).lastClosed = o'.rollId ∧ (v.rolls.lanes.get l).forced = false
                  ∧ (∃ e ∈ v.rolls.history, EntryHolds o' e ∧ e.lane = l ∧ e.reason = reason
                      ∧ KindIs kj.standardRepeats kj.minRepeats o' e.kind)
                  ∧ (isFinal = false → ¬switches → v.rolls.lanes.get l
                      = { state := .winding, roll := OpenRoll.empty (some kj.number), forced := false, lastClosed := o'.rollId }))
      ∧ (∀ l, (s.rolls.lanes.get l).state = .idle → v.pins.knives.get l = s.pins.knives.get l
          ∧ (v.rolls.lanes.get l).lastClosed = (s.rolls.lanes.get l).lastClosed
          ∧ (isFinal = false → ¬switches → v.rolls.lanes.get l = s.rolls.lanes.get l))
      ∧ (1 ≤ s.rolls.nextRollId → s.rolls.nextRollId ≤ 2 ^ 32 - 1 →
          v.rolls.nextRollId = rollIdAfter (lanesBelow 6 (takesIdAtFold s)) s.rolls.nextRollId)
      ∧ v.map = { s.map with ring := s.map.ring.drop 1, retired := k.serial, knifeCursor := k.serial + 1 }
      ∧ (PathCleared k s →
          v.jobs = { s.jobs with tail := none } ∧ RaisedOnce .jobClear s v
            ∧ (∀ st, v.register.get st = if (s.register.get st).job = some k.job then StationRecord.off else s.register.get st)
            ∧ v.shade.tailCounter = none ∧ (∀ b ∈ v.shade.batches, b.job = k.job → b.state = .closed)
            ∧ v.pos = { s.pos with splices := if s.jobs.head = none then [] else s.pos.splices })
      ∧ (¬PathCleared k s → v.jobs = s.jobs ∧ NotRaised .jobClear s v ∧ v.register = s.register ∧ v.pos = s.pos)
      ∧ (isFinal = true → v.rolls.knifeJob = none ∧ ∀ l, (v.rolls.lanes.get l).state = .idle
          ∧ (v.rolls.lanes.get l).roll = OpenRoll.empty none ∧ (v.rolls.lanes.get l).forced = false)
      ∧ (∀ r h, n = some r → r.changePoint = true → s.jobs.head = some h → h.record.number = r.job →
          v.rolls.knifeJob = some { number := r.job, lanes := h.record.lanes, standardRepeats := h.record.standardRepeats,
                                    minRepeats := h.record.minRepeats }
            ∧ ∀ l, (v.rolls.lanes.get l).state = (if h.record.lanes.get l then .winding else .idle)
                ∧ (v.rolls.lanes.get l).roll = OpenRoll.empty (some r.job) ∧ (v.rolls.lanes.get l).forced = false)
      ∧ (isFinal = false → ¬switches → v.rolls.knifeJob = s.rolls.knifeJob)

/-- The close of a lane's open roll (R105, R108, R147, R148, R150): one entry joins the history, whose oldest is dropped when it is
full; the label is queued, with LABEL_READY when the queue was empty, or the roll is MISSED with LABEL_OVERRUN when the queue is
full; a depth of 14 or more raises a LABEL claim that is not held, at the crawl speed; the lane's open roll is empty and its last
closed roll is this one; ROLL_CLOSED is raised. The other lanes are untouched. -/
def Obligations.CloseRollEntersHistory : Prop :=
  ∀ (s : State) (l : Lane) (kind : RollKind) (reason : CloseReason),
    let o := (s.rolls.lanes.get l).roll
    let u := closeRoll l kind reason s
    ∃ e, u.rolls.history = s.rolls.history.drop (if 64 ≤ s.rolls.history.length then 1 else 0) ++ [e]
      ∧ EntryHolds o e ∧ e.lane = l ∧ e.kind = kind ∧ e.reason = reason
      ∧ (u.rolls.lanes.get l).lastClosed = o.rollId
      ∧ (u.rolls.lanes.get l).roll = OpenRoll.empty (s.rolls.knifeJob.map (·.number))
      ∧ (∀ l', l' ≠ l → u.rolls.lanes.get l' = s.rolls.lanes.get l')
      ∧ RaisedOnce .rollClosed s u
      ∧ (s.labels.queue.length < 16 → e.labelState = .queued ∧ NotRaised .labelOverrun s u
          ∧ ∃ x, u.labels.queue = s.labels.queue ++ [x] ∧ x = labelOf e .first ∧ x.rollId = e.rollId ∧ x.lane = l ∧ x.kind = kind
              ∧ x.reason = reason ∧ x.grade = e.grade ∧ x.batch = e.batch ∧ x.repeats = e.repeats ∧ x.lengthMm = e.lengthMm
              ∧ x.means = e.means ∧ x.spread = e.spread ∧ x.defects = e.defects ∧ x.plain = e.plain ∧ x.issue = .first)
      ∧ (16 ≤ s.labels.queue.length → e.labelState = .missed ∧ u.labels.queue = s.labels.queue ∧ RaisedOnce .labelOverrun s u)
      ∧ (s.labels.queue = [] → RaisedOnce .labelReady s u) ∧ (s.labels.queue ≠ [] → NotRaised .labelReady s u)
      ∧ (13 ≤ s.labels.queue.length → s.labels.claimHeld = false → LabelRaised s u)
      ∧ (s.labels.queue.length < 13 ∨ s.labels.claimHeld = true → u.labels.claimHeld = s.labels.claimHeld ∧ u.speed = s.speed)

/-- Grading (R131, R132): a STUB, SCRAP or MERGED roll, a roll that carries a prior roll, too many defects or any plain repeat give
REJECT; then too few samples give UNGRADED; in both cases no batch is touched. The means are the sums over the sample count,
rounded half away from zero, whatever the grade; the spread is the integer square root, rounded down, of the sum of the squares
of the ranges. isqrt, with which the distances of R133 are found too, is the integer square root rounded down. -/
def Obligations.GradeChecksInOrder : Prop :=
  (∀ n : Nat, isqrt n * isqrt n ≤ n ∧ n < (isqrt n + 1) * (isqrt n + 1))
    ∧ ∀ (s : State) (e : HistoryEntry) (j : JobRecord), jobOf e.job s = some j →
      let rejected := e.kind = .stub ∨ e.kind = .scrap ∨ e.kind = .merged ∨ e.carriesPrior = true ∨ j.defectLimit < e.defects ∨ 0 < e.plain
      let g := gradeRoll e s
      (rejected → g.1.grade = .reject ∧ g.1.batch = e.batch ∧ g.2 = s)
        ∧ (¬rejected → e.samples < j.minSamples → g.1.grade = .ungraded ∧ g.1.batch = e.batch ∧ g.2 = s)
        ∧ (e.samples = 0 → g.1.means = none)
        ∧ (0 < e.samples → ∃ v, g.1.means = some v
            ∧ v.lightness.natAbs = (2 * e.sums.lightness.natAbs + e.samples) / (2 * e.samples) ∧ 0 ≤ v.lightness * e.sums.lightness
            ∧ v.redGreen.natAbs = (2 * e.sums.redGreen.natAbs + e.samples) / (2 * e.samples) ∧ 0 ≤ v.redGreen * e.sums.redGreen
            ∧ v.yellowBlue.natAbs = (2 * e.sums.yellowBlue.natAbs + e.samples) / (2 * e.samples) ∧ 0 ≤ v.yellowBlue * e.sums.yellowBlue)
        ∧ (e.minimum = none → g.1.spread = none)
        ∧ ∀ lo hi, e.minimum = some lo → e.maximum = some hi →
            let sum : Int := (hi.lightness - lo.lightness) ^ 2 + (hi.redGreen - lo.redGreen) ^ 2 + (hi.yellowBlue - lo.yellowBlue) ^ 2
            ∃ d : Nat, g.1.spread = some d ∧ ((d : Int) ^ 2 ≤ sum ∧ sum < ((d : Int) + 1) ^ 2)

/-- The batch match of a gradable roll (R133 to R136, R138): it joins the candidate of least distance, the lower batch number among
equals, whose roll count and total length rise, held at their limits. Without a candidate, and with a free entry in the table, it
opens a batch at its means under the first number from its job's counter that no entry holds, up to the base + 999; the counter
then stands one beyond it, and the stamp counter rises. With a full table, a counter beyond base + 999, or every number up to it
held, the roll is graded HOLD with OFFSHADE. A joined roll is A within the spread limit and without defects, and otherwise B. -/
def Obligations.NearestBatchIsJoined : Prop :=
  ∀ (s : State) (e : HistoryEntry) (j : JobRecord) (m : Shade), jobOf e.job s = some j → (e.kind = .standard ∨ e.kind = .short) →
    e.carriesPrior = false → e.defects ≤ j.defectLimit → e.plain = 0 → j.minSamples ≤ e.samples →
    rollMeans e.samples e.sums = some m → s.shade.batches.Pairwise (fun b c => b.number ≠ c.number) →
    let g := gradeRoll e s
    let spread := (rollSpread e.minimum e.maximum).getD 0
    let joined := if spread ≤ j.spreadLimit ∧ e.defects = 0 then Grade.a else Grade.b
    ((∃ b ∈ s.shade.batches, isCandidate m j b = true) →
        ∃ b ∈ s.shade.batches, isCandidate m j b = true ∧ g.1.batch = some b.number ∧ g.1.stamp = some b.stamp ∧ g.1.grade = joined
          ∧ (∀ c ∈ s.shade.batches, isCandidate m j c = true →
              batchDistance m b < batchDistance m c ∨ (batchDistance m b = batchDistance m c ∧ b.number ≤ c.number))
          ∧ g.2 = s.withShade { s.shade with batches := s.shade.batches.map fun x =>
              if x.number = b.number then { x with rolls := min (x.rolls + 1) 65535, totalMm := min (x.totalMm + e.lengthMm) (2 ^ 32 - 1) }
              else x })
      ∧ ((∀ b ∈ s.shade.batches, isCandidate m j b = false) → s.shade.batches.length < 24 →
          ∀ v n, batchCounter j.number s = some v → v ≤ n → (∀ x, v ≤ x → x < n → ∃ b ∈ s.shade.batches, b.number = x) →
            (∀ b ∈ s.shade.batches, b.number ≠ n) → n ≤ j.batchBase + 999 →
            g.1.batch = some n ∧ g.1.stamp = some s.shade.nextStamp ∧ g.1.grade = joined
            ∧ RaisedOnce .batchNew s g.2 ∧ NotRaised .offshade s g.2
            ∧ g.2.shade.batches = s.shade.batches ++ [{
                number := n, job := j.number, centre := m, rolls := 1, totalMm := min e.lengthMm (2 ^ 32 - 1), state := .opened,
                stamp := s.shade.nextStamp }]
            ∧ g.2.shade.nextStamp = (if s.shade.nextStamp < 2 ^ 32 - 1 then s.shade.nextStamp + 1 else 1)
            ∧ ((∃ h, s.jobs.head = some h ∧ h.record.number = j.number) →
                g.2.shade.headCounter = some (n + 1) ∧ g.2.shade.tailCounter = s.shade.tailCounter)
            ∧ ((∀ h, s.jobs.head = some h → h.record.number ≠ j.number) →
                g.2.shade.tailCounter = some (n + 1) ∧ g.2.shade.headCounter = s.shade.headCounter))
      ∧ ((∀ b ∈ s.shade.batches, isCandidate m j b = false) →
          (24 ≤ s.shade.batches.length
            ∨ ∃ v, batchCounter j.number s = some v
                ∧ ∀ x, v ≤ x → x ≤ j.batchBase + 999 → ∃ b ∈ s.shade.batches, b.number = x) →
          g.1.grade = .hold ∧ g.1.batch = e.batch ∧ g.1.stamp = e.stamp ∧ g.2.shade = s.shade ∧ RaisedOnce .offshade s g.2
            ∧ NotRaised .batchNew s g.2)

/-- START_ROLL (R110): the forced flag of each WINDING lane of the mask is set, and no other lane is touched; a mask with no lane or
a lane above 5 is BAD_VALUE. -/
def Obligations.StartRollSetsForced : Prop :=
  ∀ (s : State) (m : Master) (tag : Byte) (mask : BitVec 8), Ready s → (m = .line ∨ m = .rewind) →
    ((mask.toNat = 0 ∨ 64 ≤ mask.toNat) →
        exec (.startRoll m tag mask) s = .next (answered m .startRoll tag .badValue [] s))
      ∧ (0 < mask.toNat → mask.toNat < 64 →
          ∃ lanes, (∀ l, lanes.get l = if mask.getLsbD (laneNumber l) = true ∧ (s.rolls.lanes.get l).state = .winding
              then { s.rolls.lanes.get l with forced := true } else s.rolls.lanes.get l)
            ∧ exec (.startRoll m tag mask) s = .next (answered m .startRoll tag .ok
                (laneSetByte (fun l => (lanes.get l).forced)
                  ++ laneSetByte (fun l => mask.getLsbD (laneNumber l) && (s.rolls.lanes.get l).state == .idle))
                (s.withRolls { s.rolls with lanes := lanes })))

/-- CUT_FAULT (R112 to R114, R142, R150, R156): refused without change as STALE; TOO_LATE with the carries-prior mark set; otherwise
the closed roll is merged back with all its sums, its label removed, its entry WITHDRAWN and its batch lowered. An answer carries
the outcome as its outcome code alone, and then the lane and the repeat count, by the model's choice (notes/assumptions/9.md);
those of a refusal are held, not sent (notes/assumptions/10.md). The merged length adds the closed roll's length in web counts,
which the history entry keeps by the model's choice, since R108 lists millimetres alone (notes/assumptions/7.md). -/
def Obligations.CutFaultMergesOrMarks : Prop :=
  ∀ (s : State) (tag : Byte) (lane : BitVec 8) (l : Lane) (rollId : BitVec 32) (c : HistoryEntry), Ready s →
    (5 < lane.toNat → exec (.cutFault .rewind tag lane rollId) s = .next (answered .rewind .cutFault tag .badValue [] s))
      ∧ (lane.toNat = laneNumber l →
          let r := s.rolls.lanes.get l
          let live := r.lastClosed = some rollId.toNat ∧ findEntry rollId.toNat s = some c ∧ c.reason ≠ .lineReset
            ∧ c.labelState ≠ .withdrawn ∧ r.state = .winding
          let late := c.labelState = .issued ∨ c.labelState = .applied ∨ r.roll.job ≠ some c.job
          ((r.lastClosed ≠ some rollId.toNat ∨ findEntry rollId.toNat s = none
              ∨ (findEntry rollId.toNat s = some c ∧ (c.reason = .lineReset ∨ c.labelState = .withdrawn)) ∨ r.state = .idle) →
            exec (.cutFault .rewind tag lane rollId) s = .next (answered .rewind .cutFault tag .stale
              (bytesOf 1 lane.toNat ++ bytesOf 2 r.roll.repeats) s))
          ∧ (live → late →
            exec (.cutFault .rewind tag lane rollId) s = .next (answered .rewind .cutFault tag .tooLate
              (bytesOf 1 lane.toNat ++ bytesOf 2 r.roll.repeats)
              (setLane l { r with roll := { r.roll with carriesPrior := true } } s)))
          ∧ (live → ¬late →
            ∃ t, exec (.cutFault .rewind tag lane rollId) s = .next (answered .rewind .cutFault tag .ok
                (bytesOf 1 lane.toNat ++ bytesOf 2 (min (r.roll.repeats + c.repeats) 65535)) t)
              ∧ MergesInto c r.roll (t.rolls.lanes.get l).roll
              ∧ t.rolls.lanes.get l = { r with roll := (t.rolls.lanes.get l).roll, forced := true }
              ∧ (∀ l', l' ≠ l → t.rolls.lanes.get l' = s.rolls.lanes.get l')
              ∧ t.rolls.history = s.rolls.history.map (fun e => if e.rollId = rollId.toNat then { e with labelState := .withdrawn } else e)
              ∧ (c.labelState = .queued → t.labels.queue = s.labels.queue.filter (fun x => x.rollId != rollId.toNat) ∧ LabelClaimFollows s t)
              ∧ (c.labelState ≠ .queued → t.labels = s.labels ∧ t.speed = s.speed)
              ∧ (c.batch = none → t.shade = s.shade)
              ∧ (∀ b n, c.batch = some b → c.stamp = some n → t.shade.batches = s.shade.batches.map (fun x =>
                  if x.stamp = n then { x with rolls := if x.rolls = 65535 then 65535 else x.rolls - 1,
                                               totalMm := if x.totalMm = 2 ^ 32 - 1 then 2 ^ 32 - 1 else x.totalMm - c.lengthMm } else x))
              ∧ t.pos = s.pos ∧ t.map = s.map ∧ t.jobs = s.jobs ∧ t.register = s.register ∧ t.emboss = s.emboss ∧ t.pins = s.pins))

/-! ### Shade samples and batches -/

/-- RESEED_SAMPLING (R123): with the seed lock clear the generator becomes 1023, answered done with 1023; with it set nothing
changes, answered inhibited with the generator value as it stands. -/
def Obligations.ReseedSampling : Prop :=
  ∀ (s : State) (tag : Byte), Ready s →
    (s.shade.seedLock = false → exec (.reseedSampling .line tag) s = .next (answered .line .reseedSampling tag .ok [1, 0x03, 0xFF]
        (s.withShade { s.shade with generator := 1023 })))
      ∧ (s.shade.seedLock = true → exec (.reseedSampling .line tag) s = .next (answered .line .reseedSampling tag .ok
        (0 :: bytesOf 2 s.shade.generator.toNat) s))
      ∧ (s.shade.seedLock = false → s.shade.generator = 1023 →
        exec (.reseedSampling .line tag) s = .next (answered .line .reseedSampling tag .ok [1, 0x03, 0xFF] s))

/-- SET_SEED_LOCK and SET_BROADCAST (R124, R178): 1 sets and 0 clears, answered with the setting as it then stands; any other
setting is BAD_VALUE and changes nothing. -/
def Obligations.SeedLockAndBroadcast : Prop :=
  ∀ (s : State) (tag : Byte) (v : BitVec 8), Ready s →
    (v.toNat ≤ 1 →
        exec (.setSeedLock .line tag v) s = .next (answered .line .setSeedLock tag .ok [v]
          (s.withShade { s.shade with seedLock := decide (v = 1) }))
        ∧ exec (.setBroadcast .line tag v) s = .next (answered .line .setBroadcast tag .ok [v]
          (s.withLink { s.link with broadcast := decide (v = 1) })))
      ∧ (1 < v.toNat →
        exec (.setSeedLock .line tag v) s = .next (answered .line .setSeedLock tag .badValue [] s)
        ∧ exec (.setBroadcast .line tag v) s = .next (answered .line .setBroadcast tag .badValue [] s))

/-- SHADE_SAMPLE (R33, R126, R127): NOT_FOUND, LATE, BAD_VALUE and DUPLICATE in that order, without change; otherwise the components,
each clamped to ±2000, are stored in the lane entry with the clamped flag, and nothing else in the ring changes. -/
def Obligations.ShadeSampleStored : Prop :=
  ∀ (s : State) (tag : Byte) (serial : BitVec 32) (lane : BitVec 8) (x y z : BitVec 16), Ready s →
    let run := exec (.shadeSample .quality tag serial lane x y z) s
    let clampTo (v : BitVec 16) : Int := max (-2000) (min 2000 v.toInt)
    let v : Sample := { shade := { lightness := clampTo x, redGreen := clampTo y, yellowBlue := clampTo z },
                        clamped := decide (clampTo x ≠ x.toInt ∨ clampTo y ≠ y.toInt ∨ clampTo z ≠ z.toInt) }
    (findRepeat serial.toNat s = none → (serial.toNat = 0 ∨ s.map.retired < serial.toNat) →
        run = .next (answered .quality .shadeSample tag .notFound [] s))
      ∧ (findRepeat serial.toNat s = none → 1 ≤ serial.toNat → serial.toNat ≤ s.map.retired →
        run = .next (answered .quality .shadeSample tag .late [] s))
      ∧ ∀ r, findRepeat serial.toNat s = some r →
          ((∀ e ∈ r.lanes, laneNumber e.lane ≠ lane.toNat) → run = .next (answered .quality .shadeSample tag .badValue [] s))
          ∧ ∀ l e, lane.toNat = laneNumber l → r.laneEntry l = some e →
              (e.sample.isSome = true → run = .next (answered .quality .shadeSample tag .duplicate [] s))
              ∧ (e.sample = none → run = .next (answered .quality .shadeSample tag .ok
                  (signedBytes 2 (clampTo x) ++ signedBytes 2 (clampTo y) ++ signedBytes 2 (clampTo z)
                    ++ flagByte v.clamped ++ flagByte r.designated)
                  (updateRepeat serial.toNat (Repeat.updateLane l fun e => { e with sample := some v }) s)))

/-- DEFECT_MARK (R128): the serial and the lane are checked as for a sample, then a count of 0 or above 15 is BAD_VALUE; otherwise
the count is added to the lane entry's defect count, up to 15, and nothing else in the ring changes. -/
def Obligations.DefectMarkAdds : Prop :=
  ∀ (s : State) (tag : Byte) (serial : BitVec 32) (lane count : BitVec 8), Ready s →
    let run := exec (.defectMark .quality tag serial lane count) s
    (findRepeat serial.toNat s = none → (serial.toNat = 0 ∨ s.map.retired < serial.toNat) →
        run = .next (answered .quality .defectMark tag .notFound [] s))
      ∧ (findRepeat serial.toNat s = none → 1 ≤ serial.toNat → serial.toNat ≤ s.map.retired →
        run = .next (answered .quality .defectMark tag .late [] s))
      ∧ ∀ r, findRepeat serial.toNat s = some r →
          ((∀ e ∈ r.lanes, laneNumber e.lane ≠ lane.toNat) → run = .next (answered .quality .defectMark tag .badValue [] s))
          ∧ ∀ l e, lane.toNat = laneNumber l → r.laneEntry l = some e →
              ((count.toNat = 0 ∨ 15 < count.toNat) → run = .next (answered .quality .defectMark tag .badValue [] s))
              ∧ (1 ≤ count.toNat → count.toNat ≤ 15 → run = .next (answered .quality .defectMark tag .ok
                  (bytesOf 1 (min (e.defects + count.toNat) 15))
                  (updateRepeat serial.toNat
                    (Repeat.updateLane l fun e => { e with defects := min (e.defects + count.toNat) 15 }) s)))

/-- CLOSE_BATCH and RETIRE_BATCH (R139, R140): NOT_FOUND without an entry of the number; Close makes the entry CLOSED; Retire is
BUSY on an OPEN entry and removes a CLOSED one. Both answer the entry's roll count and total length. -/
def Obligations.BatchClosedAndRetired : Prop :=
  ∀ (s : State) (tag : Byte) (number : BitVec 16), Ready s →
    ((∀ b ∈ s.shade.batches, b.number ≠ number.toNat) →
        exec (.closeBatch .plant tag number) s = .next (answered .plant .closeBatch tag .notFound [] s)
        ∧ exec (.retireBatch .plant tag number) s = .next (answered .plant .retireBatch tag .notFound [] s))
      ∧ ∀ b, findBatch number.toNat s = some b →
          exec (.closeBatch .plant tag number) s = .next (answered .plant .closeBatch tag .ok (bytesOf 2 b.rolls ++ bytesOf 4 b.totalMm)
            (s.withShade { s.shade with batches := s.shade.batches.map fun x => if x.number = number.toNat then { x with state := .closed } else x }))
          ∧ (b.state = .opened → exec (.retireBatch .plant tag number) s = .next (answered .plant .retireBatch tag .busy [] s))
          ∧ (b.state = .closed → exec (.retireBatch .plant tag number) s = .next (answered .plant .retireBatch tag .ok
              (bytesOf 2 b.rolls ++ bytesOf 4 b.totalMm)
              (s.withShade { s.shade with batches := s.shade.batches.filter fun x => x.number != number.toNat })))

/-! ### Labels -/

/-- TAKE_LABEL, LABEL_APPLIED and RELABEL (R150, R152 to R154): Take Label hands out the oldest record and makes its roll ISSUED, or
is EMPTY; Label Applied makes an ISSUED roll APPLIED; Relabel makes any roll of the history that is not WITHDRAWN ISSUED, taking
its record from the queue. A removal that leaves 10 or fewer records releases a held LABEL claim, and any other leaves the claim
as it was. -/
def Obligations.LabelRequests : Prop :=
  ∀ (s : State) (tag : Byte), Ready s →
    (s.labels.queue = [] → exec (.takeLabel .label tag) s = .next (answered .label .takeLabel tag .empty [0] s))
      ∧ (∀ r rest, s.labels.queue = r :: rest →
          ∃ t, exec (.takeLabel .label tag) s = .next (answered .label .takeLabel tag .ok (labelBytes r ++ bytesOf 1 rest.length) t)
            ∧ t.labels.queue = rest
            ∧ t.rolls = { s.rolls with history := s.rolls.history.map fun e => if e.rollId = r.rollId then { e with labelState := .issued } else e }
            ∧ LabelClaimFollows s t)
      ∧ ∀ rollId : BitVec 32,
          (findEntry rollId.toNat s = none →
              exec (.labelApplied .label tag rollId) s = .next (answered .label .labelApplied tag .notFound [] s)
              ∧ exec (.relabel .label tag rollId) s = .next (answered .label .relabel tag .notFound [] s))
          ∧ ∀ e, findEntry rollId.toNat s = some e →
              (e.labelState = .issued → exec (.labelApplied .label tag rollId) s = .next (answered .label .labelApplied tag .ok []
                (s.withRolls { s.rolls with history := s.rolls.history.map fun x => if x.rollId = rollId.toNat then { x with labelState := .applied } else x })))
              ∧ (e.labelState ≠ .issued → exec (.labelApplied .label tag rollId) s = .next (answered .label .labelApplied tag .stale [] s))
              ∧ (∀ m, (m = .label ∨ m = .plant) → e.labelState = .withdrawn →
                  exec (.relabel m tag rollId) s = .next (answered m .relabel tag .notFound [] s))
              ∧ (∀ m, (m = .label ∨ m = .plant) → e.labelState ≠ .withdrawn →
                  ∃ t, exec (.relabel m tag rollId) s = .next (answered m .relabel tag .ok (labelBytes (labelOf e .reissue)) t)
                    ∧ (e.labelState = .queued →
                        t.labels.queue = s.labels.queue.filter (fun x => x.rollId != rollId.toNat) ∧ LabelClaimFollows s t)
                    ∧ (e.labelState ≠ .queued → t.labels = s.labels ∧ t.speed = s.speed)
                    ∧ t.rolls = { s.rolls with history := s.rolls.history.map fun x => if x.rollId = rollId.toNat then { x with labelState := .issued } else x })

/-! ### Speed authority -/

/-- Arbitration (R166): every change of a slot, Line Reset's emptying of the internal slots, and every change of the gate run it once,
on the changed slots, whose claims it keeps;
after a run the ACTIVE claim is eligible and no eligible claim is stronger, and without an ACTIVE claim none is eligible; the
chosen slot is ACTIVE and every other filled slot HELD. -/
def Obligations.ArbitrationRule : Prop :=
  (∀ (k : Slot) (c : Option ClaimValue) (u : SpeedUnit), RunsArbitration u (changeSlot k c u)
      ∧ (changeSlot k c u).slots = u.slots.set k c ∧ (changeSlot k c u).gateOpen = u.gateOpen
      ∧ (changeSlot k c u).runSpeed = u.runSpeed ∧ (changeSlot k c u).crawlSpeed = u.crawlSpeed)
    ∧ (∀ (g : Bool) (s : State), g ≠ s.speed.gateOpen → RunsArbitration s.speed (takeGate g s).speed
        ∧ (takeGate g s).speed.slots = s.speed.slots ∧ (takeGate g s).speed.gateOpen = g)
    ∧ (∀ u : SpeedUnit, RunsArbitration u (releaseInternal u)
        ∧ (releaseInternal u).slots = ((u.slots.set .ref none).set .reg none).set .label none
        ∧ (releaseInternal u).gateOpen = u.gateOpen)
    ∧ (∀ u v : SpeedUnit, RunsArbitration u v →
        (v.active = none → ∀ k, eligible v k = false)
        ∧ (∀ a, v.active = some a → eligible v a = true ∧ slotState v a = .active
            ∧ (∀ k, eligible v k = true → slotLevel v k ≤ slotLevel v a)
            ∧ ∀ k, k ≠ a → (v.slots.get k).isSome = true → slotState v k = .held))

/-- CLAIM and RELEASE (R162, R163, R168, R169): an accepted Claim gives the sender's slot the level and the speed, clamped to 4000; a
Release empties it; arbitration runs, CLAIM_CHANGE is raised when the granted speed changed, and the answer shows the outcome.
A level of 0 or above 7 is BAD_VALUE. A Release of an empty slot leaves an arbitrated speed authority as it was. -/
def Obligations.ClaimAndRelease : Prop :=
  ∀ (s : State) (m : Master) (tag : Byte), Ready s →
    (∀ (level : BitVec 8) (speed : BitVec 16), (level.toNat = 0 ∨ 7 < level.toNat) →
        exec (.claim m tag level speed) s = .next (answered m .claim tag .badValue [] s))
      ∧ (∀ (level : BitVec 8) (speed : BitVec 16), 1 ≤ level.toNat → level.toNat ≤ 7 →
          ∃ u, exec (.claim m tag level speed) s = .next (answered m .claim tag .ok
              (bytesOf 1 (if u.active = some (masterSlot m) then 3 else 2) ++ [level] ++ bytesOf 2 (min speed.toNat 4000)
                ++ activeBytes u ++ bytesOf 2 u.granted) (withGrant u s))
            ∧ u.slots = s.speed.slots.set (masterSlot m) (some { level := level.toNat, speed := min speed.toNat 4000 })
            ∧ SettingsKept s.speed u ∧ RunsArbitration s.speed u)
      ∧ (∃ u, exec (.release m tag) s = .next (answered m .release tag .ok (activeBytes u ++ bytesOf 2 u.granted) (withGrant u s))
            ∧ u.slots = s.speed.slots.set (masterSlot m) none
            ∧ SettingsKept s.speed u ∧ RunsArbitration s.speed u)
      ∧ (Arbitrated s.speed → s.speed.slots.get (masterSlot m) = none →
          exec (.release m tag) s = .next (answered m .release tag .ok (activeBytes s.speed ++ bytesOf 2 s.speed.granted) s))

/-- SET_RUN_SPEED (R151, R168 to R170): both speeds are stored, each clamped to 4000; a filled LABEL slot takes the crawl speed and
arbitration runs; the granted speed is recomputed, with CLAIM_CHANGE when it changed. -/
def Obligations.SetRunSpeed : Prop :=
  ∀ (s : State) (tag : Byte) (run crawl : BitVec 16), Ready s →
    ∃ u, exec (.setRunSpeed .line tag run crawl) s = .next (answered .line .setRunSpeed tag .ok
        (bytesOf 2 (min run.toNat 4000) ++ bytesOf 2 (min crawl.toNat 4000) ++ bytesOf 2 u.granted) (withGrant u s))
      ∧ u.runSpeed = min run.toNat 4000 ∧ u.crawlSpeed = min crawl.toNat 4000 ∧ u.gateOpen = s.speed.gateOpen
      ∧ (s.speed.slots.get .label = none → u.slots = s.speed.slots ∧ u.active = s.speed.active)
      ∧ (∀ c, s.speed.slots.get .label = some c →
          u.slots = s.speed.slots.set .label (some { c with speed := min crawl.toNat 4000 }) ∧ RunsArbitration s.speed u)
      ∧ u.granted ≤ u.runSpeed
      ∧ (u.active = none → u.granted = u.runSpeed)
      ∧ (∀ a c, u.active = some a → u.slots.get a = some c → u.granted = min u.runSpeed c.speed)

/-- SET_CLAIM_GATE (R171): a setting that changes the gate runs arbitration over the kept claims; the setting already held changes
nothing; any other setting is BAD_VALUE. -/
def Obligations.SetClaimGate : Prop :=
  ∀ (s : State) (tag : Byte) (v : BitVec 8), Ready s →
    (1 < v.toNat → exec (.setClaimGate .line tag v) s = .next (answered .line .setClaimGate tag .badValue [] s))
      ∧ (v.toNat ≤ 1 → decide (v = 1) = s.speed.gateOpen →
          exec (.setClaimGate .line tag v) s = .next (answered .line .setClaimGate tag .ok
            (v :: activeBytes s.speed ++ bytesOf 2 s.speed.granted) s))
      ∧ (v.toNat ≤ 1 → decide (v = 1) ≠ s.speed.gateOpen →
          ∃ u, exec (.setClaimGate .line tag v) s = .next (answered .line .setClaimGate tag .ok
              (v :: activeBytes u ++ bytesOf 2 u.granted) (withGrant u s))
            ∧ u.slots = s.speed.slots ∧ u.gateOpen = decide (v = 1) ∧ u.runSpeed = s.speed.runSpeed
            ∧ u.crawlSpeed = s.speed.crawlSpeed ∧ RunsArbitration s.speed u)

/-! ### Jobs -/

/-- SET_GEOMETRY (R41): BUSY while a job is armed or in the path; BAD_VALUE outside the three ranges or with e_nip not below D_cut;
otherwise the geometry takes the three values, and nothing else changes. -/
def Obligations.SetGeometry : Prop :=
  ∀ (s : State) (tag : Byte) (dCut dSp eNip : BitVec 32), Ready s →
    let used := s.jobs.head.isSome = true ∨ s.jobs.tail.isSome = true ∨ (armedJob s).isSome = true
    let good := 20000 ≤ dCut.toNat ∧ dCut.toNat ≤ 4000000 ∧ dSp.toNat ≤ 2000000 ∧ eNip.toNat ≤ 4000000 ∧ eNip.toNat < dCut.toNat
    let run := exec (.setGeometry .line tag dCut dSp eNip) s
    (used → run = .next (answered .line .setGeometry tag .busy [] s))
      ∧ (¬used → ¬good → run = .next (answered .line .setGeometry tag .badValue [] s))
      ∧ (¬used → good → run = .next (answered .line .setGeometry tag .ok []
          (s.withJobs { s.jobs with geometry := { dCut := dCut.toNat, dSp := dSp.toNat, eNip := eNip.toNat } })))

/-- LOAD_JOB (R42, R43, R194): MALFORMED, BUSY and BAD_VALUE in that order, without change. BAD_VALUE names the first field, in table
order, whose value at its place in the payload is outside the table's range, and for fields 7 to 10 the lowest station that fails
it; these values are held, not sent (notes/assumptions/10.md). That one field is checked over all station entries before the next,
which decides the field and the station named when several entries are wrong, is the model's choice (notes/assumptions/17.md).
Otherwise the record replaces the staged slot, unarmed, and the answer is n_roll, L_mm x 20 / R rounded up. -/
def Obligations.LoadJob : Prop :=
  ∀ (s : State) (tag : Byte) (p : List Byte), Ready s → 52 ≤ p.length → p.length ≤ 120 →
    let run := exec (.loadJob .line tag p) s
    let count := fieldAt 19 1 p
    let station (i : Nat) : Nat := fieldAt (43 + 9 * i) 1 p
    let agrees := 1 ≤ count ∧ count ≤ 8 ∧ p.length = 43 + 9 * count + (if fieldAt 29 1 p = 1 then 5 else 0)
    let refused (values : List Byte) := run = .next (answered .line .loadJob tag .badValue values s)
    (¬agrees → run = .next (answered .line .loadJob tag .malformed [] s))
      ∧ (agrees → (armedJob s).isSome = true → run = .next (answered .line .loadJob tag .busy [] s))
      ∧ (agrees → armedJob s = none → ∀ n, 1 ≤ n → n ≤ 28 → ¬FieldValid p n → (∀ m, 1 ≤ m → m < n → FieldValid p m) →
          ((n < 7 ∨ 10 < n) → refused [BitVec.ofNat 8 n, 0, 0])
          ∧ (7 ≤ n → n ≤ 10 → ∀ i < count, ¬EntryValid p i n → (∀ k < count, ¬EntryValid p k n → station i ≤ station k) →
              refused [BitVec.ofNat 8 n, 1, BitVec.ofNat 8 (station i)]))
      ∧ (agrees → armedJob s = none → (∀ n, 1 ≤ n → n ≤ 28 → FieldValid p n) →
          ∃ n j, IsStandardRepeats p n ∧ RecordRead p j
            ∧ run = .next (answered .line .loadJob tag .ok (bytesOf 2 n)
                (s.withJobs { s.jobs with staged := some { record := j, armed := false } })))

/-- The job check (R36), for a job with W below R: its four conditions, the two ring bounds as bounds on the numerators. -/
def Obligations.JobCheckConditions : Prop :=
  ∀ (dCut : Nat) (head : Option JobRecord) (j : JobRecord), j.halfWindow < j.length →
    (jobCheck dCut head j = true ↔
      dCut + j.length + j.halfWindow ≤ 254 * (j.length - j.halfWindow)
        ∧ (∀ h, head = some h → dCut + h.length + h.halfWindow ≤ 254 * (j.length - j.halfWindow))
        ∧ (∀ e ∈ j.stations, e.offset + j.halfWindow < dCut)
        ∧ ∀ h, head = some h → h.length / 2 + j.halfWindow ≤ j.length + h.halfWindow)

/-- ARM_JOB (R45, R46): NO_JOB, BUSY and BAD_VALUE in that order, without change; otherwise the staged record is armed, answered with
the ring bound, and with no head job the reference is SEEKING. -/
def Obligations.ArmJob : Prop :=
  ∀ (s : State) (tag : Byte), Ready s →
    let run := exec (.armJob .line tag) s
    (s.jobs.staged = none → run = .next (drain (answered .line .armJob tag .noJob [] s)))
      ∧ ∀ j, s.jobs.staged = some j →
          let busy := s.jobs.tail.isSome = true ∨ j.armed = true
          let same := ∃ h, s.jobs.head = some h ∧ h.record.number = j.record.number
          let fits := jobCheck s.jobs.geometry.dCut (s.jobs.head.map (·.record)) j.record = true
          (busy → run = .next (drain (answered .line .armJob tag .busy [] s)))
          ∧ (¬busy → (same ∨ ¬fits) → run = .next (drain (answered .line .armJob tag .badValue [] s)))
          ∧ (¬busy → ¬same → fits → run = .next (drain (answered .line .armJob tag .ok
              (bytesOf 2 (armBound s.jobs.geometry.dCut (s.jobs.head.map (·.record)) j.record))
              ((s.withJobs { s.jobs with staged := some { j with armed := true } }).withPos
                { s.pos with ref := if s.jobs.head = none then { s.pos.ref with state := .seeking } else s.pos.ref }))))

/-- END_JOB (R12, R15, R16, R49, R50, R122, R134): NO_JOB or BUSY without change; in SEEKING the arming is withdrawn; on a head job
without a tail job the newest repeat takes the job's R as its length and the splice list is resolved against it, which may flag it
with its zone, the extent and SPLICE_SEEN; the reference is IDLE, a REF claim is released, and the job becomes the tail job with
its last serial and final boundary, any arming withdrawn. That the reference keeps its synth run, last error and stray count, which
R12 does not name, is the model's choice (notes/assumptions/21.md). The answers' form byte 1 with 12 bytes of 0, and form byte 2
with its values, are the model's choice (notes/assumptions/9.md). Stated
while no knife position is passed already, the final one included, as in every state that settled crossings leave (R96). -/
def Obligations.EndJob : Prop :=
  ∀ (s : State) (tag : Byte), Ready s →
    let run := exec (.endJob .line tag) s
    let unarmed := s.jobs.staged.map fun j => { j with armed := false }
    (s.jobs.head = none → armedJob s = none → run = .next (drain (answered .line .endJob tag .noJob [] s)))
      ∧ (s.jobs.head.isSome = true → s.jobs.tail.isSome = true → run = .next (drain (answered .line .endJob tag .busy [] s)))
      ∧ (s.jobs.head = none → (armedJob s).isSome = true →
          run = .next (drain (answered .line .endJob tag .ok (1 :: List.replicate 12 0)
            ((s.withJobs { s.jobs with staged := unarmed }).withPos { s.pos with ref := { s.pos.ref with state := .idle } }))))
      ∧ ∀ h r, s.jobs.head = some h → s.jobs.tail = none → s.map.ring.getLast? = some r →
          (∀ reg, dueKnifeReg s = some reg → s.pos.highWater < reg.position) →
          s.pos.highWater < r.start + h.record.length + s.jobs.geometry.dCut →
          ∃ t, run = .next (drain (answered .line .endJob tag .ok
              (2 :: (bytesOf 2 h.record.number ++ bytesOf 4 r.serial ++ bytesOf 6 (r.start + h.record.length))) t))
            ∧ t.jobs = { s.jobs with staged := unarmed, head := none, tail := some {
                record := h.record, firstSerial := h.firstSerial, lastSerial := r.serial,
                finalBoundary := some (r.start + h.record.length) } }
            ∧ t.pos = { s.pos with
                ref := { s.pos.ref with state := .idle, newestStart := none }
                splices := s.pos.splices.filter fun p => !(decide (r.start ≤ p) && decide (p < r.start + h.record.length)) }
            ∧ (s.pos.ref.state = .lost → t.speed.slots.get .ref = none)
            ∧ (s.pos.ref.state ≠ .lost → t.speed.slots.get .ref = s.speed.slots.get .ref)
            ∧ t.shade = { s.shade with target := none, headCounter := none, tailCounter := s.shade.headCounter }
            ∧ (∃ r', t.map.ring.getLast? = some r' ∧ r'.serial = r.serial ∧ r'.length = some h.record.length)
            ∧ t.map.ring.map Repeat.printed = (recordsCompleted (r.start + h.record.length) s).map Repeat.printed
            ∧ t.map.extent = extentCompleted (r.start + h.record.length) s
            ∧ ((spliceRepeatAt (r.start + h.record.length) s).isSome = true → RaisedOnce .spliceSeen s t)
            ∧ (spliceRepeatAt (r.start + h.record.length) s = none → NotRaised .spliceSeen s t)
            ∧ (s.map.knifeCursor = r.serial → (∀ x ∈ s.map.ring, x.serial ≤ r.serial) → t.rolls.knifeReg = some {
                position := r.start + h.record.length + s.jobs.geometry.dCut + h.record.cutPhase, kind := .finalPosition })

/-- LINE_RESET (R19, R37, R54, R55, R81, R95, R118, R145, R150, R158, R173, R188): the open rolls that hold repeats close as SCRAP with
reason LINE_RESET, their labels joining the queue while it has places, and one without a roll id takes one first, in ascending lane
order (R99); the closes may fill the LABEL slot (R150, R158). The path is discarded, and the internal slots are emptied as one
change with one arbitration, from the claims that the closes left (R173);
what outlives a path is kept: the staged record, the label queue, the roll id counter, the master claims, the masks and the
pending sets, to which the notices of the closes, of the embosser and of the granted speed are added. -/
def Obligations.LineReset : Prop :=
  ∀ (s : State) (tag : Byte), Ready s → ListsBounded s →
    ∃ t, exec (.lineReset .line tag) s = .next (answered .line .lineReset tag .ok (bytesOf 1 (openRollCount s)) t)
      ∧ t.map = { ring := [], extent := 0, retired := 0, nipCursor := 1, knifeCursor := 1 }
      ∧ t.pos = { s.pos with
          ref := { state := .idle, newestStart := none, synthRun := 0, lastError := 0, strays := 0 }, nextSerial := 1, splices := [], speed := 0 }
      ∧ t.jobs = { s.jobs with staged := s.jobs.staged.map (fun j => { j with armed := false }), head := none, tail := none }
      ∧ (∀ st, t.register.get st = StationRecord.off) ∧ t.emboss = EmbossUnit.reset
      ∧ (∀ l, (t.rolls.lanes.get l).state = .idle ∧ (t.rolls.lanes.get l).roll = OpenRoll.empty none ∧ (t.rolls.lanes.get l).forced = false
          ∧ ((s.rolls.lanes.get l).roll.repeats = 0 → (t.rolls.lanes.get l).lastClosed = (s.rolls.lanes.get l).lastClosed)
          ∧ ((s.rolls.lanes.get l).roll.repeats ≠ 0 → (s.rolls.lanes.get l).roll.rollId.isSome = true →
              (t.rolls.lanes.get l).lastClosed = (s.rolls.lanes.get l).roll.rollId)
          ∧ (takesIdAtReset s l = true → 1 ≤ s.rolls.nextRollId → s.rolls.nextRollId ≤ 2 ^ 32 - 1 → (t.rolls.lanes.get l).lastClosed
              = some (rollIdAfter (lanesBelow (laneNumber l) (takesIdAtReset s)) s.rolls.nextRollId)))
      ∧ t.rolls.knifeJob = none ∧ t.rolls.knifeReg = none
      ∧ ((∀ l, (s.rolls.lanes.get l).roll.repeats ≠ 0 → (s.rolls.lanes.get l).roll.rollId.isSome = true) →
          t.rolls.nextRollId = s.rolls.nextRollId)
      ∧ (1 ≤ s.rolls.nextRollId → s.rolls.nextRollId ≤ 2 ^ 32 - 1 →
          t.rolls.nextRollId = rollIdAfter (lanesBelow 6 (takesIdAtReset s)) s.rolls.nextRollId)
      ∧ (∃ new queued, new.length = openRollCount s ∧ (∀ e ∈ new, e.kind = .scrap ∧ e.reason = .lineReset ∧ e.grade = .reject)
          ∧ t.rolls.history = (s.rolls.history ++ new).drop (s.rolls.history.length + new.length - 64)
          ∧ queued = min (openRollCount s) (16 - s.labels.queue.length)
          ∧ (∀ e ∈ new.take queued, e.labelState = .queued) ∧ (∀ e ∈ new.drop queued, e.labelState = .missed)
          ∧ t.labels.queue = s.labels.queue ++ (new.take queued).map (fun e => labelOf e .first)
          ∧ RaisedTimes (openRollCount s) .rollClosed s t ∧ RaisedTimes (openRollCount s - queued) .labelOverrun s t
          ∧ RaisedTimes (if s.labels.queue = [] ∧ openRollCount s ≠ 0 then 1 else 0) .labelReady s t)
      ∧ EmbossNoticed s t
      ∧ RaisedTimes (if t.speed.granted = s.speed.granted then 0 else 1) .claimChange s t
      ∧ (∀ k, k ≠ .rollClosed → k ≠ .labelOverrun → k ≠ .labelReady → k ≠ .embossChange → k ≠ .claimChange → NotRaised k s t)
      ∧ t.shade = { s.shade with target := none, headCounter := none, tailCounter := none }
      ∧ t.labels.claimHeld = false ∧ t.speed.slots.get .ref = none ∧ t.speed.slots.get .reg = none ∧ t.speed.slots.get .label = none
      ∧ (∀ m, t.speed.slots.get (masterSlot m) = s.speed.slots.get (masterSlot m)) ∧ SettingsKept s.speed t.speed
      ∧ (∃ b : SpeedUnit,
          (if s.labels.claimHeld = false ∧ 0 < openRollCount s ∧ 14 ≤ min 16 (s.labels.queue.length + openRollCount s) then
              b.slots = s.speed.slots.set .label (some { level := 3, speed := s.speed.crawlSpeed }) ∧ RunsArbitration s.speed b
                ∧ SettingsKept s.speed b
            else b = s.speed)
          ∧ RunsArbitration b t.speed)
      ∧ t.link.masks = s.link.masks ∧ t.link.address = s.link.address ∧ t.link.broadcast = s.link.broadcast
      ∧ t.link.discards = s.link.discards ∧ t.link.lastReason = s.link.lastReason ∧ t.pins = s.pins

/-- TEACH_OFFSETS (R79): a TRACKING or HOLDING station with teach-ready set, whose offset plus last error lies from 0 to
D_cut - W - 1, takes that offset into its own job's record and clears teach-ready; every other station, every other offset and
every other field of the head and the tail job are unchanged. The answer is sent as a list of seven entries with its header, by
the model's choice (notes/assumptions/9.md). -/
def Obligations.TeachOffsets : Prop :=
  ∀ (s : State) (tag : Byte), Ready s →
    ∃ t, exec (.teachOffsets .line tag) s = .next (answered .line .teachOffsets tag .ok (listBytes (allStations.map (teachEntryBytes s t))) t)
      ∧ t = (s.withJobs t.jobs).withRegister t.register ∧ t.jobs = { s.jobs with head := t.jobs.head, tail := t.jobs.tail }
      ∧ (s.jobs.head = none → t.jobs.head = none) ∧ (s.jobs.tail = none → t.jobs.tail = none)
      ∧ (∀ h, s.jobs.head = some h → ∃ j, t.jobs.head = some { h with record := j } ∧ TeachesRecord s h.record j)
      ∧ (∀ x, s.jobs.tail = some x → ∃ j, t.jobs.tail = some { x with record := j }
          ∧ ((∀ h, s.jobs.head = some h → h.record.number ≠ x.record.number) → TeachesRecord s x.record j)
          ∧ (∀ h, s.jobs.head = some h → h.record.number = x.record.number → j = x.record))
      ∧ ∀ st,
          let r := s.register.get st
          (∀ a, Taught st a s → t.register.get st = { r with teachReady := false }
              ∧ stationOffset st t = some ((a : Int) + r.lastError).toNat)
          ∧ ((∀ a, ¬Taught st a s) → t.register.get st = r ∧ stationOffset st t = stationOffset st s)

/-! ### Reads and notices -/

/-- The reads (R34, R76, R116, R125, R143, R182): each is answered from the state as it stands, and changes nothing but the answer
held. Status is read with the link already ANSWERING (notes/assumptions/19.md). -/
def Obligations.ReadsChangeNothing : Prop :=
  ∀ (s : State) (m : Master) (tag : Byte), Ready s →
    (∀ mask : BitVec 16, 1 ≤ mask.toNat → mask.toNat < 1024 →
        exec (.status m tag mask) s = .next (answered m .status tag .ok
          (statusBytes mask (s.withLink { s.link with state := .answering, gathered := [] })) s))
      ∧ (∀ mask : BitVec 16, (mask.toNat = 0 ∨ 1024 ≤ mask.toNat) →
        exec (.status m tag mask) s = .next (answered m .status tag .badValue [] s))
      ∧ (∀ serial : BitVec 32,
          (∀ r, findRepeat serial.toNat s = some r →
            exec (.readRepeat m tag serial) s = .next (answered m .readRepeat tag .ok (repeatBytes r) s))
          ∧ (findRepeat serial.toNat s = none →
            exec (.readRepeat m tag serial) s = .next (answered m .readRepeat tag .notFound [] s)))
      ∧ exec (.readRolls m tag 0) s = .next (answered m .readRolls tag .ok (rollSummaryBytes s) s)
      ∧ (∀ rollId : BitVec 32, rollId ≠ 0 →
          (∀ e, findEntry rollId.toNat s = some e →
            exec (.readRolls m tag rollId) s = .next (answered m .readRolls tag .ok (entryBytes e) s))
          ∧ (findEntry rollId.toNat s = none →
            exec (.readRolls m tag rollId) s = .next (answered m .readRolls tag .notFound [] s)))
      ∧ exec (.takeTrims .drive tag) s = .next (answered .drive .takeTrims tag .ok (trimsBytes s) s)
      ∧ exec (.readSamplePlan .quality tag) s = .next (answered .quality .readSamplePlan tag .ok (planBytes s) s)
      ∧ exec (.readBatches .plant tag) s = .next (answered .plant .readBatches tag .ok (batchesBytes s) s)

/-- READ_NOTICES (R185): answered with the sender's pending set, which becomes empty, its attention line released; the other
masters' sets and every mask are left as they were; an empty set is answered with no entries and nothing changes. -/
def Obligations.ReadNoticesEmptiesSet : Prop :=
  ∀ (s : State) (m : Master) (tag : Byte), Ready s →
    ∃ sets, exec (.readNotices m tag) s = .next (answered m .readNotices tag .ok
          (listBytes ((allKinds.filter fun k => pendingCount m k s != 0).map fun k => bytesOf 1 (kindNumber k) ++ bytesOf 1 (pendingCount m k s)))
          (s.withLink { s.link with notices := sets }))
      ∧ (∀ k, (sets.get m).get k = 0) ∧ (∀ m', m' ≠ m → sets.get m' = s.link.notices.get m')
      ∧ attention m (s.withLink { s.link with notices := sets }) = false
      ∧ ((∀ k, pendingCount m k s = 0) →
          exec (.readNotices m tag) s = .next (answered m .readNotices tag .ok [0, 0] s))

/-- SET_NOTICE_MASK (R186): a mask with bit 14 or 15 is BAD_VALUE; otherwise the sender's mask becomes the kinds of the set bits, and
its pending kinds outside the mask are dropped with their counts. -/
def Obligations.SetNoticeMask : Prop :=
  ∀ (s : State) (m : Master) (tag : Byte) (mask : BitVec 16), Ready s →
    (16384 ≤ mask.toNat → exec (.setNoticeMask m tag mask) s = .next (answered m .setNoticeMask tag .badValue [] s))
      ∧ (mask.toNat < 16384 →
          ∃ kinds set, (∀ k, kinds.get k = mask.getLsbD (kindNumber k))
            ∧ (∀ k, set.get k = if mask.getLsbD (kindNumber k) = true then pendingCount m k s else 0)
            ∧ exec (.setNoticeMask m tag mask) s = .next (answered m .setNoticeMask tag .ok
                (bytesOf 2 mask.toNat ++ pendingBytes set)
                (s.withLink { s.link with masks := s.link.masks.set m kinds, notices := s.link.notices.set m set })))

/-! ### The line link -/

/-- The frame of any request to the part's address, ended by END_DELIMITER, is taken as the request row that carries it (R176, R180,
R192): address, master, code, tag, length, payload and CRC are all read back. That a request row is a whole frame is the model's
choice (notes/assumptions/4.md). -/
def Obligations.RequestFrameIsRequest : Prop :=
  ∀ (s : State) (i : Instr) (m : Master) (tag : Byte) (r : Request), i.request = some (m, tag, r) → s.pins.resetLow = false →
    s.link.address ≠ 0 → (requestPayload r).length ≤ 240 →
    exec .endDelimiter (receiving (requestFrame s.link.address m tag r) s)
      = exec i (s.withLink { s.link with state := .listening, gathered := [] })

/-- The payload of every request reads back as that request, and its code names it in the request index (R180, R192). -/
def Obligations.PayloadReadsBack : Prop :=
  ∀ r : Request, readRequest (requestName r) (requestPayload r) = r
    ∧ requestOfCode (requestCode (requestName r)) = some (requestName r)
    ∧ (requestName r ≠ .loadJob → lengthAllowed (requestName r) (requestPayload r).length = true)

/-- END_DELIMITER of a frame that fails a check of R176: the first check that fails gives the reason; the frame is discarded, the
discard count rises up to 65535, the link listens, and nothing else changes. -/
def Obligations.BadFrameDiscarded : Prop :=
  ∀ s : State, s.pins.resetLow = false → s.link.state = .receiving →
    let bs := s.link.gathered
    let n := fieldAt 4 1 bs
    let c1 := 7 ≤ bs.length ∧ n ≤ 240 ∧ bs.length = 7 + n
    let c2 := fieldAt (5 + n) 2 bs = (crcOf (bs.take (5 + n))).toNat
    let c3 := fieldAt 0 1 bs = s.link.address.toNat ∨ (fieldAt 0 1 bs = 0 ∧ s.link.broadcast = true)
    let c4 := 1 ≤ fieldAt 1 1 bs ∧ fieldAt 1 1 bs ≤ 6
    let c5 := fieldAt 0 1 bs = 0 → (fieldAt 2 1 bs = 0x06 ∧ n = 3) ∨ (fieldAt 2 1 bs = 0x07 ∧ n = 0)
    let discarded (reason : DiscardReason) : State :=
      s.withLink { s.link with state := .listening, gathered := [], discards := min (s.link.discards + 1) 65535, lastReason := reason }
    (¬c1 → exec .endDelimiter s = .next (discarded .length))
      ∧ (c1 → ¬c2 → exec .endDelimiter s = .next (discarded .crc))
      ∧ (c1 → c2 → ¬c3 → exec .endDelimiter s = .next (discarded .address))
      ∧ (c1 → c2 → c3 → ¬c4 → exec .endDelimiter s = .next (discarded .master))
      ∧ (c1 → c2 → c3 → c4 → ¬c5 → exec .endDelimiter s = .next (discarded .broadcast))

/-- END_DELIMITER of a frame to the part's address that passes the checks of R176 (R180, R181): a code outside the index is
BAD_REQUEST, a sender without the role NOT_PERMITTED, a payload length that the index does not allow MALFORMED; the response is
held for sending, and nothing else changes. -/
def Obligations.FrameRefused : Prop :=
  ∀ (s : State) (m : Master) (code tag : Byte) (payload : List Byte), s.pins.resetLow = false → s.link.address ≠ 0 →
    payload.length ≤ 240 →
    let sender : Byte := BitVec.ofNat 8 (masterNumber m)
    let body : List Byte := [s.link.address, sender, code, tag, BitVec.ofNat 8 payload.length] ++ payload
    let run := exec .endDelimiter (receiving (body ++ bytesOf 2 (crcOf body).toNat) s)
    let refusedBy (o : OutcomeCode) : State :=
      s.withLink { s.link with state := .answering, gathered := [], response := some {
        master := sender, code := code, tag := tag, answer := { outcome := o, values := [] }, begun := 0 } }
    (requestOfCode code = none → run = .next (refusedBy .badRequest))
      ∧ ∀ n, requestOfCode code = some n →
          (permitted n m = false → run = .next (refusedBy .notPermitted))
          ∧ (permitted n m = true → lengthAllowed n payload.length = false → run = .next (refusedBy .malformed))

/-- A broadcast Claim or Release (R164, R179), with broadcast enabled: it acts on the sender's slot, arbitration runs, CLAIM_CHANGE is
raised when the granted speed changed, and no answer is sent; the gate and the speed settings are kept. A bad level changes
nothing. -/
def Obligations.BroadcastClaimTaken : Prop :=
  ∀ (s : State) (m : Master) (tag : Byte) (level : BitVec 8) (speed : BitVec 16), s.pins.resetLow = false →
    s.model.embossNoticed = false → s.link.broadcast = true →
    let idle := s.withLink { s.link with state := .listening, gathered := [] }
    ((level.toNat = 0 ∨ 7 < level.toNat) →
        exec .endDelimiter (receiving (requestFrame 0x00 m tag (.claim level speed)) s) = .next idle)
      ∧ (1 ≤ level.toNat → level.toNat ≤ 7 →
          ∃ u, exec .endDelimiter (receiving (requestFrame 0x00 m tag (.claim level speed)) s) = .next (withGrant u idle)
            ∧ u.slots = s.speed.slots.set (masterSlot m) (some { level := level.toNat, speed := min speed.toNat 4000 })
            ∧ RunsArbitration s.speed u ∧ SettingsKept s.speed u)
      ∧ ∃ u, exec .endDelimiter (receiving (requestFrame 0x00 m tag .release) s) = .next (withGrant u idle)
          ∧ u.slots = s.speed.slots.set (masterSlot m) none ∧ RunsArbitration s.speed u ∧ SettingsKept s.speed u

/-- The line symbols (R175, R181): START_DELIMITER with the bytes after it, FRAME_PAUSE, an END_DELIMITER outside a frame,
SEGMENT_SEND and FINAL_SEGMENT_END. The bytes travel with START_DELIMITER by the model's choice (notes/assumptions/11.md), and a
symbol out of place has no effect (notes/assumptions/12.md). -/
def Obligations.LineSymbols : Prop :=
  ∀ (s : State) (data : List Byte), s.pins.resetLow = false →
    let broken := s.withLink { s.link with discards := min (s.link.discards + 1) 65535, lastReason := .framing }
    (s.link.state = .listening → exec (.startDelimiter data) s = .next (receiving data s))
      ∧ (s.link.state = .receiving → exec (.startDelimiter data) s = .next (receiving data broken)
          ∧ exec .framePause s = .next (broken.withLink { broken.link with state := .listening, gathered := [] }))
      ∧ (s.link.state = .answering → exec (.startDelimiter data) s = .next s)
      ∧ (s.link.state ≠ .receiving → exec .framePause s = .next s ∧ exec .endDelimiter s = .next s)
      ∧ (∀ r, s.link.state = .answering → s.link.response = some r →
          (r.begun < segmentCount r.answer →
            exec .segmentSend s = .next (s.withLink { s.link with response := some { r with begun := r.begun + 1 } })
            ∧ exec .finalSegmentEnd s = .next s)
          ∧ (r.begun = segmentCount r.answer →
            exec .segmentSend s = .next s
            ∧ exec .finalSegmentEnd s = .next (s.withLink { s.link with state := .listening, response := none })))
      ∧ (s.link.state ≠ .answering → exec .segmentSend s = .next s ∧ exec .finalSegmentEnd s = .next s)

/-- A response on the wire (R176, R181, R192). The answer parts of its segments, joined in order, give the answer, which is the
values of OK and EMPTY and nothing of a refusal, sent in one segment; each segment but the last carries 238 bytes of it, and none
more. A segment is the part's link address plus 0x80, the master, the code and the tag of the request, the payload length, the
outcome code, the segment byte, its part of the answer, and the CRC over all of these, high byte first. The segment byte is the
number, with the high bit on the final segment alone. The CRC begins at all ones and takes each byte most significant bit first,
with the polynomial x^16 + x^12 + x^5 + 1. SEGMENT_SEND puts the next segment on the wire. -/
def Obligations.SegmentsJoinToAnswer : Prop :=
  (∀ a : Answer, (List.range (segmentCount a)).flatMap (segmentPart a) = answerPart a
    ∧ (∀ i, (segmentPart a i).length ≤ 238) ∧ (∀ i, i + 1 < segmentCount a → (segmentPart a i).length = 238)
    ∧ ((a.outcome = .ok ∨ a.outcome = .empty) → answerPart a = a.values)
    ∧ (a.outcome ≠ .ok → a.outcome ≠ .empty → answerPart a = [] ∧ segmentCount a = 1)
    ∧ (∀ i < 16, (segmentByte a i).toNat = i + (if i + 1 = segmentCount a then 128 else 0)))
    ∧ (∀ (address : Byte) (r : Response) (i : Nat),
        let part := segmentPart r.answer i
        let body := [address + 0x80, r.master, r.code, r.tag, BitVec.ofNat 8 (2 + part.length), outcomeByte r.answer.outcome,
          segmentByte r.answer i] ++ part
        let crc := (crcOf body).toNat
        segmentFrame address r i = body ++ [BitVec.ofNat 8 (crc / 256), BitVec.ofNat 8 crc])
    ∧ [OutcomeCode.ok, .empty, .badRequest, .malformed, .notPermitted, .badValue, .noJob, .busy, .notFound, .late, .duplicate, .stale,
        .tooLate].map (fun o => (outcomeByte o).toNat) = List.range 13
    ∧ crcOf [] = 0xFFFF
    ∧ (∀ (bs : List Byte) (b : Byte), crcOf (bs ++ [b]) = (List.range 8).foldl
        (fun (c : BitVec 16) i => (c <<< 1) ^^^ (if c.getLsbD 15 = b.getLsbD (7 - i) then 0 else 0x1021)) (crcOf bs))
    ∧ ∀ (s : State) (r : Response), s.pins.resetLow = false → s.link.state = .answering → s.link.response = some r →
        r.begun < segmentCount r.answer →
        ∃ t, exec .segmentSend s = .next t ∧ segmentOnWire t = some (segmentFrame s.link.address r r.begun)

/-- What the link unit makes of a request before its owning block (R175, R180, R181): ignored in ANSWERING; in RECEIVING the frame in
progress is discarded with FRAMING first; a role that is not permitted and a length that is not allowed are answered with an
empty payload, and nothing changes. A request row is a whole frame (notes/assumptions/4.md). -/
def Obligations.LinkChecksRequest : Prop :=
  ∀ (s : State) (i : Instr) (m : Master) (tag : Byte) (r : Request), i.request = some (m, tag, r) → s.pins.resetLow = false →
    (s.link.state = .answering → exec i s = .next s)
      ∧ (s.link.state = .receiving → exec i s = exec i (s.withLink { s.link with
          state := .listening, gathered := [], discards := min (s.link.discards + 1) 65535, lastReason := .framing }))
      ∧ (s.link.state = .listening → permitted (requestName r) m = false →
          exec i s = .next (answered m (requestName r) tag .notPermitted [] s))
      ∧ (s.link.state = .listening → permitted (requestName r) m = true →
          lengthAllowed (requestName r) (requestPayload r).length = false →
          exec i s = .next (answered m (requestName r) tag .malformed [] s))

/-! ### Device reset -/

/-- DEVICE_RESET and DEVICE_RESET_RELEASE (R20, R38, R57, R82, R95, R119, R146, R159, R174, R189 to R191): the assertion gives every
block its reset values, every field of them, drops every registered crossing position, and releases every output; until the
release every other command is without effect; the release reads the straps. The address is kept between the two by the model's choice (notes/assumptions/21.md), and a release without a reset has no
effect by the model's choice (notes/assumptions/12.md). -/
def Obligations.DeviceReset : Prop :=
  (∀ s : State, s.pins.resetLow = false → ∃ t, exec .deviceReset s = .next t
      ∧ t.pos = { linePos := 0, highWater := 0, speed := 0, intervalStart := 0, nextSerial := 1, splices := [],
                  ref := { state := .idle, newestStart := none, synthRun := 0, lastError := 0, strays := 0 } }
      ∧ t.map = { ring := [], extent := 0, retired := 0, nipCursor := 1, knifeCursor := 1 }
      ∧ t.jobs = { geometry := { dCut := 200000, dSp := 0, eNip := 100000 }, staged := none, head := none, tail := none }
      ∧ (∀ st, t.register.get st = {
            state := .off, job := none, cursor := none, accumulator := 0, trim := 0, trimSeq := 0, saturated := false, lastError := 0,
            missRun := 0, teachReady := false, matchCount := 0, missCount := 0, strayCount := 0, window := none, deferredMiss := false })
      ∧ t.emboss = { state := .none, nipJob := none, part := none, settleCount := 0, hold := false, lifts := [], nipReg := none }
      ∧ (∀ l, t.rolls.lanes.get l = { state := .idle, roll := OpenRoll.empty none, forced := false, lastClosed := none }
          ∧ t.pins.knives.get l = false)
      ∧ OpenRoll.empty none = {
            rollId := none, job := none, firstSerial := none, lastSerial := none, repeats := 0, length := 0, samples := 0,
            sums := { lightness := 0, redGreen := 0, yellowBlue := 0 }, minimum := none, maximum := none, missed := 0, defects := 0,
            plain := 0, excluded := 0, merged := false, carriesPrior := false }
      ∧ t.rolls.nextRollId = 1 ∧ t.rolls.history = [] ∧ t.rolls.knifeJob = none ∧ t.rolls.knifeReg = none ∧ registered t = []
      ∧ t.shade = { generator := 1023, seedLock := false, target := none, headCounter := none, tailCounter := none, nextStamp := 1, batches := [] }
      ∧ t.labels = { queue := [], claimHeld := false }
      ∧ (∀ k, t.speed.slots.get k = none) ∧ t.speed.runSpeed = 0 ∧ t.speed.crawlSpeed = 100 ∧ t.speed.gateOpen = true
      ∧ t.speed.active = none ∧ t.speed.granted = 0
      ∧ t.link.state = .listening ∧ t.link.broadcast = false ∧ t.link.discards = 0 ∧ t.link.lastReason = .none ∧ t.link.response = none
      ∧ t.link.gathered = [] ∧ (∀ m k, pendingCount m k t = 0)
      ∧ (∀ m, attention m t = false ∧ t.link.masks.get m = defaultMask m) ∧ t.link.address = s.link.address
      ∧ t.pins.resetLow = true ∧ elAsserted t = false ∧ drivesLink t = false ∧ t.pending = s.pending)
    ∧ (∀ (s : State) (c : Instr), s.pins.resetLow = true → (∀ a b d, c ≠ .deviceResetRelease a b d) → exec c s = .next s)
    ∧ (∀ (s : State) (a b d : Bool), s.pins.resetLow = false → exec (.deviceResetRelease a b d) s = .next s)
    ∧ ∀ (s : State) (a b d : Bool), s.pins.resetLow = true →
        ∃ t, exec (.deviceResetRelease a b d) s = .next t
          ∧ t.link.address.toNat = 0x40 + (if a then 1 else 0) + (if b then 2 else 0) + (if d then 4 else 0)
          ∧ t.link.state = .listening ∧ t.pos = { s.pos with intervalStart := s.pos.highWater } ∧ t.pins = { s.pins with resetLow := false }
          ∧ t = { s with pos := t.pos, pins := t.pins, link := { s.link with address := t.link.address, state := .listening } }

/-! ### Laws that every step keeps -/

/-- Every step keeps the positions and the speed in order, every bounded list within its places, the geometry valid with no job
armed beside a tail job, the records of the path in the head and the tail job, the generator off 0, and the roll id counter and
the entry stamp counter from 1 to 2^32 - 1 (R1 to R3, R13, R41, R42, R44, R45, R88, R99, R108, R120, R134, R138, R148). -/
def Obligations.StepKeepsBounds : Prop :=
  ∀ s t : State, step s = .next t →
    (PositionSound s → PositionSound t) ∧ (ListsBounded s → ListsBounded t) ∧ (JobsSound s → JobsSound t)
      ∧ (JobsSound s → PathSound s → PathSound t) ∧ (s.shade.generator ≠ 0 → t.shade.generator ≠ 0)
      ∧ (CountersInRange s → CountersInRange t)

/-- Every step that begins with nothing due, or with an input edge waiting in front, ends so: what the high-water position has
reached has been taken (R2), except while an input edge waits that arrived together with it and is taken before some of it, which is
the model's free choice (notes/assumptions/22.md). -/
def Obligations.StepKeepsSettled : Prop :=
  ∀ s t : State, step s = .next t → JobsSound s → HeldInReset s → (Settled s ∨ inputWaits s = true) →
    Settled t ∨ inputWaits t = true

/-- Every step keeps arbitration's law (R166, R168) and the agreement of the REF, REG and LABEL claims with their conditions (R75,
R172). -/
def Obligations.StepKeepsArbitration : Prop :=
  ∀ s t : State, step s = .next t →
    (Arbitrated s.speed → Arbitrated t.speed) ∧ (JobsSound s → ClaimsAgree s → ClaimsAgree t)

/-- Every step keeps the embosser in agreement with its causes (R83, R84, R91): the lift line is asserted exactly in LIFTED, and the
embosser is LIFTED exactly while an emboss part is held and a cause is in force. -/
def Obligations.StepKeepsEmbosser : Prop :=
  ∀ s t : State, step s = .next t → EmbossSound s → EmbossSound t

/-- Every step keeps the link unit in order, and holds the blocks at their reset values while device reset is asserted (R175 to R186,
R190). It leaves no event open: that is the model's own mark for a single EMBOSS_CHANGE in an event (notes/assumptions/6.md). That
the link listens while reset is asserted follows from the reset values. -/
def Obligations.StepKeepsLink : Prop :=
  ∀ s t : State, step s = .next t → LinkSound s → HeldInReset s → s.model.embossNoticed = false →
    LinkSound t ∧ HeldInReset t ∧ t.model.embossNoticed = false

/-- Every step keeps the ring's serials consecutive between the retired mark and the next serial, with the knife cursor at the
oldest record (R21, R30, R32), while the serial counter is below its end by more than one step can create: past 2^32 - 1 the
next serial is free (notes/assumptions/3.md). A step takes one mark at most, and its window ends lie at least 2,000 counts apart,
the least R, up to the high-water position (R9, R42). -/
def Obligations.StepKeepsRing : Prop :=
  ∀ s t : State, step s = .next t → JobsSound s → RingSound s → s.pos.nextSerial + s.pos.highWater / 2000 + 4 ≤ 2 ^ 32 - 1 →
    RingSound t

/-- The state right after device reset meets every law that the steps keep; its link address is that of straps read low, by the
model's choice (notes/assumptions/1.md). -/
def Obligations.ResetIsSound : Prop :=
  PositionSound State.reset ∧ ListsBounded State.reset ∧ JobsSound State.reset ∧ PathSound State.reset
    ∧ State.reset.shade.generator ≠ 0 ∧ CountersInRange State.reset ∧ Arbitrated State.reset.speed ∧ ClaimsAgree State.reset ∧ EmbossSound State.reset
    ∧ LinkSound State.reset ∧ HeldInReset State.reset ∧ RingSound State.reset ∧ Ready State.reset ∧ Settled State.reset
end

