-- ==== Sys2Proof/Laws/State.lean ====
section
/-! SUPPORT. For each update of one block of State, what every field reads after it; for each table, what an entry reads after
an entry is set. -/

namespace Sys2Proof.Machine

@[simp] theorem State.withPos_pos (s : State) (v : PositionUnit) : (s.withPos v).pos = v := rfl
@[simp] theorem State.withPos_map (s : State) (v : PositionUnit) : (s.withPos v).map = s.map := rfl
@[simp] theorem State.withPos_jobs (s : State) (v : PositionUnit) : (s.withPos v).jobs = s.jobs := rfl
@[simp] theorem State.withPos_register (s : State) (v : PositionUnit) : (s.withPos v).register = s.register := rfl
@[simp] theorem State.withPos_emboss (s : State) (v : PositionUnit) : (s.withPos v).emboss = s.emboss := rfl
@[simp] theorem State.withPos_rolls (s : State) (v : PositionUnit) : (s.withPos v).rolls = s.rolls := rfl
@[simp] theorem State.withPos_shade (s : State) (v : PositionUnit) : (s.withPos v).shade = s.shade := rfl
@[simp] theorem State.withPos_labels (s : State) (v : PositionUnit) : (s.withPos v).labels = s.labels := rfl
@[simp] theorem State.withPos_speed (s : State) (v : PositionUnit) : (s.withPos v).speed = s.speed := rfl
@[simp] theorem State.withPos_link (s : State) (v : PositionUnit) : (s.withPos v).link = s.link := rfl
@[simp] theorem State.withPos_pins (s : State) (v : PositionUnit) : (s.withPos v).pins = s.pins := rfl
@[simp] theorem State.withPos_model (s : State) (v : PositionUnit) : (s.withPos v).model = s.model := rfl
@[simp] theorem State.withPos_pending (s : State) (v : PositionUnit) : (s.withPos v).pending = s.pending := rfl

@[simp] theorem State.withMap_pos (s : State) (v : WebMap) : (s.withMap v).pos = s.pos := rfl
@[simp] theorem State.withMap_map (s : State) (v : WebMap) : (s.withMap v).map = v := rfl
@[simp] theorem State.withMap_jobs (s : State) (v : WebMap) : (s.withMap v).jobs = s.jobs := rfl
@[simp] theorem State.withMap_register (s : State) (v : WebMap) : (s.withMap v).register = s.register := rfl
@[simp] theorem State.withMap_emboss (s : State) (v : WebMap) : (s.withMap v).emboss = s.emboss := rfl
@[simp] theorem State.withMap_rolls (s : State) (v : WebMap) : (s.withMap v).rolls = s.rolls := rfl
@[simp] theorem State.withMap_shade (s : State) (v : WebMap) : (s.withMap v).shade = s.shade := rfl
@[simp] theorem State.withMap_labels (s : State) (v : WebMap) : (s.withMap v).labels = s.labels := rfl
@[simp] theorem State.withMap_speed (s : State) (v : WebMap) : (s.withMap v).speed = s.speed := rfl
@[simp] theorem State.withMap_link (s : State) (v : WebMap) : (s.withMap v).link = s.link := rfl
@[simp] theorem State.withMap_pins (s : State) (v : WebMap) : (s.withMap v).pins = s.pins := rfl
@[simp] theorem State.withMap_model (s : State) (v : WebMap) : (s.withMap v).model = s.model := rfl
@[simp] theorem State.withMap_pending (s : State) (v : WebMap) : (s.withMap v).pending = s.pending := rfl

@[simp] theorem State.withJobs_pos (s : State) (v : JobUnit) : (s.withJobs v).pos = s.pos := rfl
@[simp] theorem State.withJobs_map (s : State) (v : JobUnit) : (s.withJobs v).map = s.map := rfl
@[simp] theorem State.withJobs_jobs (s : State) (v : JobUnit) : (s.withJobs v).jobs = v := rfl
@[simp] theorem State.withJobs_register (s : State) (v : JobUnit) : (s.withJobs v).register = s.register := rfl
@[simp] theorem State.withJobs_emboss (s : State) (v : JobUnit) : (s.withJobs v).emboss = s.emboss := rfl
@[simp] theorem State.withJobs_rolls (s : State) (v : JobUnit) : (s.withJobs v).rolls = s.rolls := rfl
@[simp] theorem State.withJobs_shade (s : State) (v : JobUnit) : (s.withJobs v).shade = s.shade := rfl
@[simp] theorem State.withJobs_labels (s : State) (v : JobUnit) : (s.withJobs v).labels = s.labels := rfl
@[simp] theorem State.withJobs_speed (s : State) (v : JobUnit) : (s.withJobs v).speed = s.speed := rfl
@[simp] theorem State.withJobs_link (s : State) (v : JobUnit) : (s.withJobs v).link = s.link := rfl
@[simp] theorem State.withJobs_pins (s : State) (v : JobUnit) : (s.withJobs v).pins = s.pins := rfl
@[simp] theorem State.withJobs_model (s : State) (v : JobUnit) : (s.withJobs v).model = s.model := rfl
@[simp] theorem State.withJobs_pending (s : State) (v : JobUnit) : (s.withJobs v).pending = s.pending := rfl

@[simp] theorem State.withRegister_pos (s : State) (v : PerStation StationRecord) : (s.withRegister v).pos = s.pos := rfl
@[simp] theorem State.withRegister_map (s : State) (v : PerStation StationRecord) : (s.withRegister v).map = s.map := rfl
@[simp] theorem State.withRegister_jobs (s : State) (v : PerStation StationRecord) : (s.withRegister v).jobs = s.jobs := rfl
@[simp] theorem State.withRegister_register (s : State) (v : PerStation StationRecord) : (s.withRegister v).register = v := rfl
@[simp] theorem State.withRegister_emboss (s : State) (v : PerStation StationRecord) : (s.withRegister v).emboss = s.emboss := rfl
@[simp] theorem State.withRegister_rolls (s : State) (v : PerStation StationRecord) : (s.withRegister v).rolls = s.rolls := rfl
@[simp] theorem State.withRegister_shade (s : State) (v : PerStation StationRecord) : (s.withRegister v).shade = s.shade := rfl
@[simp] theorem State.withRegister_labels (s : State) (v : PerStation StationRecord) : (s.withRegister v).labels = s.labels := rfl
@[simp] theorem State.withRegister_speed (s : State) (v : PerStation StationRecord) : (s.withRegister v).speed = s.speed := rfl
@[simp] theorem State.withRegister_link (s : State) (v : PerStation StationRecord) : (s.withRegister v).link = s.link := rfl
@[simp] theorem State.withRegister_pins (s : State) (v : PerStation StationRecord) : (s.withRegister v).pins = s.pins := rfl
@[simp] theorem State.withRegister_model (s : State) (v : PerStation StationRecord) : (s.withRegister v).model = s.model := rfl
@[simp] theorem State.withRegister_pending (s : State) (v : PerStation StationRecord) : (s.withRegister v).pending = s.pending := rfl

@[simp] theorem State.withEmboss_pos (s : State) (v : EmbossUnit) : (s.withEmboss v).pos = s.pos := rfl
@[simp] theorem State.withEmboss_map (s : State) (v : EmbossUnit) : (s.withEmboss v).map = s.map := rfl
@[simp] theorem State.withEmboss_jobs (s : State) (v : EmbossUnit) : (s.withEmboss v).jobs = s.jobs := rfl
@[simp] theorem State.withEmboss_register (s : State) (v : EmbossUnit) : (s.withEmboss v).register = s.register := rfl
@[simp] theorem State.withEmboss_emboss (s : State) (v : EmbossUnit) : (s.withEmboss v).emboss = v := rfl
@[simp] theorem State.withEmboss_rolls (s : State) (v : EmbossUnit) : (s.withEmboss v).rolls = s.rolls := rfl
@[simp] theorem State.withEmboss_shade (s : State) (v : EmbossUnit) : (s.withEmboss v).shade = s.shade := rfl
@[simp] theorem State.withEmboss_labels (s : State) (v : EmbossUnit) : (s.withEmboss v).labels = s.labels := rfl
@[simp] theorem State.withEmboss_speed (s : State) (v : EmbossUnit) : (s.withEmboss v).speed = s.speed := rfl
@[simp] theorem State.withEmboss_link (s : State) (v : EmbossUnit) : (s.withEmboss v).link = s.link := rfl
@[simp] theorem State.withEmboss_pins (s : State) (v : EmbossUnit) : (s.withEmboss v).pins = s.pins := rfl
@[simp] theorem State.withEmboss_model (s : State) (v : EmbossUnit) : (s.withEmboss v).model = s.model := rfl
@[simp] theorem State.withEmboss_pending (s : State) (v : EmbossUnit) : (s.withEmboss v).pending = s.pending := rfl

@[simp] theorem State.withRolls_pos (s : State) (v : RollUnit) : (s.withRolls v).pos = s.pos := rfl
@[simp] theorem State.withRolls_map (s : State) (v : RollUnit) : (s.withRolls v).map = s.map := rfl
@[simp] theorem State.withRolls_jobs (s : State) (v : RollUnit) : (s.withRolls v).jobs = s.jobs := rfl
@[simp] theorem State.withRolls_register (s : State) (v : RollUnit) : (s.withRolls v).register = s.register := rfl
@[simp] theorem State.withRolls_emboss (s : State) (v : RollUnit) : (s.withRolls v).emboss = s.emboss := rfl
@[simp] theorem State.withRolls_rolls (s : State) (v : RollUnit) : (s.withRolls v).rolls = v := rfl
@[simp] theorem State.withRolls_shade (s : State) (v : RollUnit) : (s.withRolls v).shade = s.shade := rfl
@[simp] theorem State.withRolls_labels (s : State) (v : RollUnit) : (s.withRolls v).labels = s.labels := rfl
@[simp] theorem State.withRolls_speed (s : State) (v : RollUnit) : (s.withRolls v).speed = s.speed := rfl
@[simp] theorem State.withRolls_link (s : State) (v : RollUnit) : (s.withRolls v).link = s.link := rfl
@[simp] theorem State.withRolls_pins (s : State) (v : RollUnit) : (s.withRolls v).pins = s.pins := rfl
@[simp] theorem State.withRolls_model (s : State) (v : RollUnit) : (s.withRolls v).model = s.model := rfl
@[simp] theorem State.withRolls_pending (s : State) (v : RollUnit) : (s.withRolls v).pending = s.pending := rfl

@[simp] theorem State.withShade_pos (s : State) (v : ShadeUnit) : (s.withShade v).pos = s.pos := rfl
@[simp] theorem State.withShade_map (s : State) (v : ShadeUnit) : (s.withShade v).map = s.map := rfl
@[simp] theorem State.withShade_jobs (s : State) (v : ShadeUnit) : (s.withShade v).jobs = s.jobs := rfl
@[simp] theorem State.withShade_register (s : State) (v : ShadeUnit) : (s.withShade v).register = s.register := rfl
@[simp] theorem State.withShade_emboss (s : State) (v : ShadeUnit) : (s.withShade v).emboss = s.emboss := rfl
@[simp] theorem State.withShade_rolls (s : State) (v : ShadeUnit) : (s.withShade v).rolls = s.rolls := rfl
@[simp] theorem State.withShade_shade (s : State) (v : ShadeUnit) : (s.withShade v).shade = v := rfl
@[simp] theorem State.withShade_labels (s : State) (v : ShadeUnit) : (s.withShade v).labels = s.labels := rfl
@[simp] theorem State.withShade_speed (s : State) (v : ShadeUnit) : (s.withShade v).speed = s.speed := rfl
@[simp] theorem State.withShade_link (s : State) (v : ShadeUnit) : (s.withShade v).link = s.link := rfl
@[simp] theorem State.withShade_pins (s : State) (v : ShadeUnit) : (s.withShade v).pins = s.pins := rfl
@[simp] theorem State.withShade_model (s : State) (v : ShadeUnit) : (s.withShade v).model = s.model := rfl
@[simp] theorem State.withShade_pending (s : State) (v : ShadeUnit) : (s.withShade v).pending = s.pending := rfl

@[simp] theorem State.withLabels_pos (s : State) (v : LabelUnit) : (s.withLabels v).pos = s.pos := rfl
@[simp] theorem State.withLabels_map (s : State) (v : LabelUnit) : (s.withLabels v).map = s.map := rfl
@[simp] theorem State.withLabels_jobs (s : State) (v : LabelUnit) : (s.withLabels v).jobs = s.jobs := rfl
@[simp] theorem State.withLabels_register (s : State) (v : LabelUnit) : (s.withLabels v).register = s.register := rfl
@[simp] theorem State.withLabels_emboss (s : State) (v : LabelUnit) : (s.withLabels v).emboss = s.emboss := rfl
@[simp] theorem State.withLabels_rolls (s : State) (v : LabelUnit) : (s.withLabels v).rolls = s.rolls := rfl
@[simp] theorem State.withLabels_shade (s : State) (v : LabelUnit) : (s.withLabels v).shade = s.shade := rfl
@[simp] theorem State.withLabels_labels (s : State) (v : LabelUnit) : (s.withLabels v).labels = v := rfl
@[simp] theorem State.withLabels_speed (s : State) (v : LabelUnit) : (s.withLabels v).speed = s.speed := rfl
@[simp] theorem State.withLabels_link (s : State) (v : LabelUnit) : (s.withLabels v).link = s.link := rfl
@[simp] theorem State.withLabels_pins (s : State) (v : LabelUnit) : (s.withLabels v).pins = s.pins := rfl
@[simp] theorem State.withLabels_model (s : State) (v : LabelUnit) : (s.withLabels v).model = s.model := rfl
@[simp] theorem State.withLabels_pending (s : State) (v : LabelUnit) : (s.withLabels v).pending = s.pending := rfl

@[simp] theorem State.withSpeed_pos (s : State) (v : SpeedUnit) : (s.withSpeed v).pos = s.pos := rfl
@[simp] theorem State.withSpeed_map (s : State) (v : SpeedUnit) : (s.withSpeed v).map = s.map := rfl
@[simp] theorem State.withSpeed_jobs (s : State) (v : SpeedUnit) : (s.withSpeed v).jobs = s.jobs := rfl
@[simp] theorem State.withSpeed_register (s : State) (v : SpeedUnit) : (s.withSpeed v).register = s.register := rfl
@[simp] theorem State.withSpeed_emboss (s : State) (v : SpeedUnit) : (s.withSpeed v).emboss = s.emboss := rfl
@[simp] theorem State.withSpeed_rolls (s : State) (v : SpeedUnit) : (s.withSpeed v).rolls = s.rolls := rfl
@[simp] theorem State.withSpeed_shade (s : State) (v : SpeedUnit) : (s.withSpeed v).shade = s.shade := rfl
@[simp] theorem State.withSpeed_labels (s : State) (v : SpeedUnit) : (s.withSpeed v).labels = s.labels := rfl
@[simp] theorem State.withSpeed_speed (s : State) (v : SpeedUnit) : (s.withSpeed v).speed = v := rfl
@[simp] theorem State.withSpeed_link (s : State) (v : SpeedUnit) : (s.withSpeed v).link = s.link := rfl
@[simp] theorem State.withSpeed_pins (s : State) (v : SpeedUnit) : (s.withSpeed v).pins = s.pins := rfl
@[simp] theorem State.withSpeed_model (s : State) (v : SpeedUnit) : (s.withSpeed v).model = s.model := rfl
@[simp] theorem State.withSpeed_pending (s : State) (v : SpeedUnit) : (s.withSpeed v).pending = s.pending := rfl

@[simp] theorem State.withLink_pos (s : State) (v : LinkUnit) : (s.withLink v).pos = s.pos := rfl
@[simp] theorem State.withLink_map (s : State) (v : LinkUnit) : (s.withLink v).map = s.map := rfl
@[simp] theorem State.withLink_jobs (s : State) (v : LinkUnit) : (s.withLink v).jobs = s.jobs := rfl
@[simp] theorem State.withLink_register (s : State) (v : LinkUnit) : (s.withLink v).register = s.register := rfl
@[simp] theorem State.withLink_emboss (s : State) (v : LinkUnit) : (s.withLink v).emboss = s.emboss := rfl
@[simp] theorem State.withLink_rolls (s : State) (v : LinkUnit) : (s.withLink v).rolls = s.rolls := rfl
@[simp] theorem State.withLink_shade (s : State) (v : LinkUnit) : (s.withLink v).shade = s.shade := rfl
@[simp] theorem State.withLink_labels (s : State) (v : LinkUnit) : (s.withLink v).labels = s.labels := rfl
@[simp] theorem State.withLink_speed (s : State) (v : LinkUnit) : (s.withLink v).speed = s.speed := rfl
@[simp] theorem State.withLink_link (s : State) (v : LinkUnit) : (s.withLink v).link = v := rfl
@[simp] theorem State.withLink_pins (s : State) (v : LinkUnit) : (s.withLink v).pins = s.pins := rfl
@[simp] theorem State.withLink_model (s : State) (v : LinkUnit) : (s.withLink v).model = s.model := rfl
@[simp] theorem State.withLink_pending (s : State) (v : LinkUnit) : (s.withLink v).pending = s.pending := rfl

@[simp] theorem State.withPins_pos (s : State) (v : Pins) : (s.withPins v).pos = s.pos := rfl
@[simp] theorem State.withPins_map (s : State) (v : Pins) : (s.withPins v).map = s.map := rfl
@[simp] theorem State.withPins_jobs (s : State) (v : Pins) : (s.withPins v).jobs = s.jobs := rfl
@[simp] theorem State.withPins_register (s : State) (v : Pins) : (s.withPins v).register = s.register := rfl
@[simp] theorem State.withPins_emboss (s : State) (v : Pins) : (s.withPins v).emboss = s.emboss := rfl
@[simp] theorem State.withPins_rolls (s : State) (v : Pins) : (s.withPins v).rolls = s.rolls := rfl
@[simp] theorem State.withPins_shade (s : State) (v : Pins) : (s.withPins v).shade = s.shade := rfl
@[simp] theorem State.withPins_labels (s : State) (v : Pins) : (s.withPins v).labels = s.labels := rfl
@[simp] theorem State.withPins_speed (s : State) (v : Pins) : (s.withPins v).speed = s.speed := rfl
@[simp] theorem State.withPins_link (s : State) (v : Pins) : (s.withPins v).link = s.link := rfl
@[simp] theorem State.withPins_pins (s : State) (v : Pins) : (s.withPins v).pins = v := rfl
@[simp] theorem State.withPins_model (s : State) (v : Pins) : (s.withPins v).model = s.model := rfl
@[simp] theorem State.withPins_pending (s : State) (v : Pins) : (s.withPins v).pending = s.pending := rfl

@[simp] theorem State.withModel_pos (s : State) (v : ModelFields) : (s.withModel v).pos = s.pos := rfl
@[simp] theorem State.withModel_map (s : State) (v : ModelFields) : (s.withModel v).map = s.map := rfl
@[simp] theorem State.withModel_jobs (s : State) (v : ModelFields) : (s.withModel v).jobs = s.jobs := rfl
@[simp] theorem State.withModel_register (s : State) (v : ModelFields) : (s.withModel v).register = s.register := rfl
@[simp] theorem State.withModel_emboss (s : State) (v : ModelFields) : (s.withModel v).emboss = s.emboss := rfl
@[simp] theorem State.withModel_rolls (s : State) (v : ModelFields) : (s.withModel v).rolls = s.rolls := rfl
@[simp] theorem State.withModel_shade (s : State) (v : ModelFields) : (s.withModel v).shade = s.shade := rfl
@[simp] theorem State.withModel_labels (s : State) (v : ModelFields) : (s.withModel v).labels = s.labels := rfl
@[simp] theorem State.withModel_speed (s : State) (v : ModelFields) : (s.withModel v).speed = s.speed := rfl
@[simp] theorem State.withModel_link (s : State) (v : ModelFields) : (s.withModel v).link = s.link := rfl
@[simp] theorem State.withModel_pins (s : State) (v : ModelFields) : (s.withModel v).pins = s.pins := rfl
@[simp] theorem State.withModel_model (s : State) (v : ModelFields) : (s.withModel v).model = v := rfl
@[simp] theorem State.withModel_pending (s : State) (v : ModelFields) : (s.withModel v).pending = s.pending := rfl

@[simp] theorem State.withPending_pos (s : State) (v : List Instr) : (s.withPending v).pos = s.pos := rfl
@[simp] theorem State.withPending_map (s : State) (v : List Instr) : (s.withPending v).map = s.map := rfl
@[simp] theorem State.withPending_jobs (s : State) (v : List Instr) : (s.withPending v).jobs = s.jobs := rfl
@[simp] theorem State.withPending_register (s : State) (v : List Instr) : (s.withPending v).register = s.register := rfl
@[simp] theorem State.withPending_emboss (s : State) (v : List Instr) : (s.withPending v).emboss = s.emboss := rfl
@[simp] theorem State.withPending_rolls (s : State) (v : List Instr) : (s.withPending v).rolls = s.rolls := rfl
@[simp] theorem State.withPending_shade (s : State) (v : List Instr) : (s.withPending v).shade = s.shade := rfl
@[simp] theorem State.withPending_labels (s : State) (v : List Instr) : (s.withPending v).labels = s.labels := rfl
@[simp] theorem State.withPending_speed (s : State) (v : List Instr) : (s.withPending v).speed = s.speed := rfl
@[simp] theorem State.withPending_link (s : State) (v : List Instr) : (s.withPending v).link = s.link := rfl
@[simp] theorem State.withPending_pins (s : State) (v : List Instr) : (s.withPending v).pins = s.pins := rfl
@[simp] theorem State.withPending_model (s : State) (v : List Instr) : (s.withPending v).model = s.model := rfl
@[simp] theorem State.withPending_pending (s : State) (v : List Instr) : (s.withPending v).pending = v := rfl

@[simp] theorem State.withPos_self (s : State) : s.withPos s.pos = s := rfl
@[simp] theorem State.withMap_self (s : State) : s.withMap s.map = s := rfl
@[simp] theorem State.withJobs_self (s : State) : s.withJobs s.jobs = s := rfl
@[simp] theorem State.withRegister_self (s : State) : s.withRegister s.register = s := rfl
@[simp] theorem State.withEmboss_self (s : State) : s.withEmboss s.emboss = s := rfl
@[simp] theorem State.withRolls_self (s : State) : s.withRolls s.rolls = s := rfl
@[simp] theorem State.withShade_self (s : State) : s.withShade s.shade = s := rfl
@[simp] theorem State.withLabels_self (s : State) : s.withLabels s.labels = s := rfl
@[simp] theorem State.withSpeed_self (s : State) : s.withSpeed s.speed = s := rfl
@[simp] theorem State.withLink_self (s : State) : s.withLink s.link = s := rfl
@[simp] theorem State.withPins_self (s : State) : s.withPins s.pins = s := rfl
@[simp] theorem State.withModel_self (s : State) : s.withModel s.model = s := rfl
@[simp] theorem State.withPending_self (s : State) : s.withPending s.pending = s := rfl

@[simp] theorem PerLane.get_set_same {α : Type} (t : PerLane α) (i : Lane) (v : α) : (t.set i v).get i = v := by
  cases i <;> rfl

theorem PerLane.get_set_other {α : Type} (t : PerLane α) (i j : Lane) (v : α) (h : j ≠ i) : (t.set i v).get j = t.get j := by
  cases i <;> cases j <;> first | rfl | exact absurd rfl h

@[simp] theorem PerLane.get_tabulate {α : Type} (f : Lane → α) (i : Lane) : (PerLane.tabulate f).get i = f i := by
  cases i <;> rfl

theorem PerLane.ext_get {α : Type} (t u : PerLane α) (h : ∀ i, t.get i = u.get i) : t = u := by
  obtain ⟨⟩ := t; obtain ⟨⟩ := u
  simp only [PerLane.mk.injEq]
  refine ⟨h .l0, h .l1, h .l2, h .l3, h .l4, h .l5⟩

@[simp] theorem PerStation.get_set_same {α : Type} (t : PerStation α) (i : Station) (v : α) : (t.set i v).get i = v := by
  cases i <;> rfl

theorem PerStation.get_set_other {α : Type} (t : PerStation α) (i j : Station) (v : α) (h : j ≠ i) : (t.set i v).get j = t.get j := by
  cases i <;> cases j <;> first | rfl | exact absurd rfl h

@[simp] theorem PerStation.get_tabulate {α : Type} (f : Station → α) (i : Station) : (PerStation.tabulate f).get i = f i := by
  cases i <;> rfl

theorem PerStation.ext_get {α : Type} (t u : PerStation α) (h : ∀ i, t.get i = u.get i) : t = u := by
  obtain ⟨⟩ := t; obtain ⟨⟩ := u
  simp only [PerStation.mk.injEq]
  refine ⟨h .s1, h .s2, h .s3, h .s4, h .s5, h .s6, h .s7⟩

@[simp] theorem PerMaster.get_set_same {α : Type} (t : PerMaster α) (i : Master) (v : α) : (t.set i v).get i = v := by
  cases i <;> rfl

theorem PerMaster.get_set_other {α : Type} (t : PerMaster α) (i j : Master) (v : α) (h : j ≠ i) : (t.set i v).get j = t.get j := by
  cases i <;> cases j <;> first | rfl | exact absurd rfl h

@[simp] theorem PerMaster.get_tabulate {α : Type} (f : Master → α) (i : Master) : (PerMaster.tabulate f).get i = f i := by
  cases i <;> rfl

theorem PerMaster.ext_get {α : Type} (t u : PerMaster α) (h : ∀ i, t.get i = u.get i) : t = u := by
  obtain ⟨⟩ := t; obtain ⟨⟩ := u
  simp only [PerMaster.mk.injEq]
  refine ⟨h .line, h .drive, h .quality, h .rewind, h .label, h .plant⟩

@[simp] theorem PerSlot.get_set_same {α : Type} (t : PerSlot α) (i : Slot) (v : α) : (t.set i v).get i = v := by
  cases i <;> rfl

theorem PerSlot.get_set_other {α : Type} (t : PerSlot α) (i j : Slot) (v : α) (h : j ≠ i) : (t.set i v).get j = t.get j := by
  cases i <;> cases j <;> first | rfl | exact absurd rfl h

@[simp] theorem PerSlot.get_tabulate {α : Type} (f : Slot → α) (i : Slot) : (PerSlot.tabulate f).get i = f i := by
  cases i <;> rfl

theorem PerSlot.ext_get {α : Type} (t u : PerSlot α) (h : ∀ i, t.get i = u.get i) : t = u := by
  obtain ⟨⟩ := t; obtain ⟨⟩ := u
  simp only [PerSlot.mk.injEq]
  refine ⟨h .ref, h .reg, h .label, h .m1, h .m2, h .m3, h .m4, h .m5, h .m6⟩

@[simp] theorem PerKind.get_set_same {α : Type} (t : PerKind α) (i : NoticeKind) (v : α) : (t.set i v).get i = v := by
  cases i <;> rfl

theorem PerKind.get_set_other {α : Type} (t : PerKind α) (i j : NoticeKind) (v : α) (h : j ≠ i) : (t.set i v).get j = t.get j := by
  cases i <;> cases j <;> first | rfl | exact absurd rfl h

@[simp] theorem PerKind.get_tabulate {α : Type} (f : NoticeKind → α) (i : NoticeKind) : (PerKind.tabulate f).get i = f i := by
  cases i <;> rfl

theorem PerKind.ext_get {α : Type} (t u : PerKind α) (h : ∀ i, t.get i = u.get i) : t = u := by
  obtain ⟨⟩ := t; obtain ⟨⟩ := u
  simp only [PerKind.mk.injEq]
  refine ⟨h .refLost, h .refLocked, h .stationLost, h .jobSwitched, h .jobClear, h .spliceSeen, h .spliceListFull, h .rollClosed, h .labelReady, h .labelOverrun, h .batchNew, h .offshade, h .claimChange, h .embossChange⟩

end Sys2Proof.Machine
end

