-- ==== Sys2Proof/Laws/Frames.lean ====
section
/-! SUPPORT. What each operation of the blocks leaves unchanged: for each operation, one lemma for each field of State that it
never writes. -/

namespace Sys2Proof.Machine

open Sys2Proof

/-- A fold of an operation that keeps `p` keeps `p`. -/
theorem foldl_keeps {α β : Type} (p : State → β) (f : State → α → State) (h : ∀ s a, p (f s a) = p s) (xs : List α) (s : State) :
    p (xs.foldl f s) = p s := by
  induction xs generalizing s with
  | nil => rfl
  | cons a as ih => exact (ih _).trans (h _ _)


/-! ### Notices and the ring -/

@[simp] theorem advanceDraws_pos (n : Nat) (s : State) : (advanceDraws n s).pos = s.pos := by
  rfl
@[simp] theorem advanceDraws_map (n : Nat) (s : State) : (advanceDraws n s).map = s.map := by
  rfl
@[simp] theorem advanceDraws_jobs (n : Nat) (s : State) : (advanceDraws n s).jobs = s.jobs := by
  rfl
@[simp] theorem advanceDraws_register (n : Nat) (s : State) : (advanceDraws n s).register = s.register := by
  rfl
@[simp] theorem advanceDraws_emboss (n : Nat) (s : State) : (advanceDraws n s).emboss = s.emboss := by
  rfl
@[simp] theorem advanceDraws_rolls (n : Nat) (s : State) : (advanceDraws n s).rolls = s.rolls := by
  rfl
@[simp] theorem advanceDraws_shade (n : Nat) (s : State) : (advanceDraws n s).shade = s.shade := by
  rfl
@[simp] theorem advanceDraws_labels (n : Nat) (s : State) : (advanceDraws n s).labels = s.labels := by
  rfl
@[simp] theorem advanceDraws_speed (n : Nat) (s : State) : (advanceDraws n s).speed = s.speed := by
  rfl
@[simp] theorem advanceDraws_link (n : Nat) (s : State) : (advanceDraws n s).link = s.link := by
  rfl
@[simp] theorem advanceDraws_pins (n : Nat) (s : State) : (advanceDraws n s).pins = s.pins := by
  rfl
@[simp] theorem advanceDraws_pending (n : Nat) (s : State) : (advanceDraws n s).pending = s.pending := by
  rfl

@[simp] theorem raiseNotice_pos (k : NoticeKind) (s : State) : (raiseNotice k s).pos = s.pos := by
  rfl
@[simp] theorem raiseNotice_map (k : NoticeKind) (s : State) : (raiseNotice k s).map = s.map := by
  rfl
@[simp] theorem raiseNotice_jobs (k : NoticeKind) (s : State) : (raiseNotice k s).jobs = s.jobs := by
  rfl
@[simp] theorem raiseNotice_register (k : NoticeKind) (s : State) : (raiseNotice k s).register = s.register := by
  rfl
@[simp] theorem raiseNotice_emboss (k : NoticeKind) (s : State) : (raiseNotice k s).emboss = s.emboss := by
  rfl
@[simp] theorem raiseNotice_rolls (k : NoticeKind) (s : State) : (raiseNotice k s).rolls = s.rolls := by
  rfl
@[simp] theorem raiseNotice_shade (k : NoticeKind) (s : State) : (raiseNotice k s).shade = s.shade := by
  rfl
@[simp] theorem raiseNotice_labels (k : NoticeKind) (s : State) : (raiseNotice k s).labels = s.labels := by
  rfl
@[simp] theorem raiseNotice_speed (k : NoticeKind) (s : State) : (raiseNotice k s).speed = s.speed := by
  rfl
@[simp] theorem raiseNotice_pins (k : NoticeKind) (s : State) : (raiseNotice k s).pins = s.pins := by
  rfl
@[simp] theorem raiseNotice_model (k : NoticeKind) (s : State) : (raiseNotice k s).model = s.model := by
  rfl
@[simp] theorem raiseNotice_pending (k : NoticeKind) (s : State) : (raiseNotice k s).pending = s.pending := by
  rfl

@[simp] theorem noteEmbossMove_pos (s : State) : (noteEmbossMove s).pos = s.pos := by
  unfold noteEmbossMove; split <;> simp
@[simp] theorem noteEmbossMove_map (s : State) : (noteEmbossMove s).map = s.map := by
  unfold noteEmbossMove; split <;> simp
@[simp] theorem noteEmbossMove_jobs (s : State) : (noteEmbossMove s).jobs = s.jobs := by
  unfold noteEmbossMove; split <;> simp
@[simp] theorem noteEmbossMove_register (s : State) : (noteEmbossMove s).register = s.register := by
  unfold noteEmbossMove; split <;> simp
@[simp] theorem noteEmbossMove_emboss (s : State) : (noteEmbossMove s).emboss = s.emboss := by
  unfold noteEmbossMove; split <;> simp
@[simp] theorem noteEmbossMove_rolls (s : State) : (noteEmbossMove s).rolls = s.rolls := by
  unfold noteEmbossMove; split <;> simp
@[simp] theorem noteEmbossMove_shade (s : State) : (noteEmbossMove s).shade = s.shade := by
  unfold noteEmbossMove; split <;> simp
@[simp] theorem noteEmbossMove_labels (s : State) : (noteEmbossMove s).labels = s.labels := by
  unfold noteEmbossMove; split <;> simp
@[simp] theorem noteEmbossMove_speed (s : State) : (noteEmbossMove s).speed = s.speed := by
  unfold noteEmbossMove; split <;> simp
@[simp] theorem noteEmbossMove_pins (s : State) : (noteEmbossMove s).pins = s.pins := by
  unfold noteEmbossMove; split <;> simp
@[simp] theorem noteEmbossMove_pending (s : State) : (noteEmbossMove s).pending = s.pending := by
  unfold noteEmbossMove; split <;> simp

@[simp] theorem updateRepeat_pos (n : Nat) (f : Repeat → Repeat) (s : State) : (updateRepeat n f s).pos = s.pos := by
  rfl
@[simp] theorem updateRepeat_jobs (n : Nat) (f : Repeat → Repeat) (s : State) : (updateRepeat n f s).jobs = s.jobs := by
  rfl
@[simp] theorem updateRepeat_register (n : Nat) (f : Repeat → Repeat) (s : State) : (updateRepeat n f s).register = s.register := by
  rfl
@[simp] theorem updateRepeat_emboss (n : Nat) (f : Repeat → Repeat) (s : State) : (updateRepeat n f s).emboss = s.emboss := by
  rfl
@[simp] theorem updateRepeat_rolls (n : Nat) (f : Repeat → Repeat) (s : State) : (updateRepeat n f s).rolls = s.rolls := by
  rfl
@[simp] theorem updateRepeat_shade (n : Nat) (f : Repeat → Repeat) (s : State) : (updateRepeat n f s).shade = s.shade := by
  rfl
@[simp] theorem updateRepeat_labels (n : Nat) (f : Repeat → Repeat) (s : State) : (updateRepeat n f s).labels = s.labels := by
  rfl
@[simp] theorem updateRepeat_speed (n : Nat) (f : Repeat → Repeat) (s : State) : (updateRepeat n f s).speed = s.speed := by
  rfl
@[simp] theorem updateRepeat_link (n : Nat) (f : Repeat → Repeat) (s : State) : (updateRepeat n f s).link = s.link := by
  rfl
@[simp] theorem updateRepeat_pins (n : Nat) (f : Repeat → Repeat) (s : State) : (updateRepeat n f s).pins = s.pins := by
  rfl
@[simp] theorem updateRepeat_model (n : Nat) (f : Repeat → Repeat) (s : State) : (updateRepeat n f s).model = s.model := by
  rfl
@[simp] theorem updateRepeat_pending (n : Nat) (f : Repeat → Repeat) (s : State) : (updateRepeat n f s).pending = s.pending := by
  rfl

/-! ### Speed authority -/

@[simp] theorem setSlot_pos (k : Slot) (c : Option ClaimValue) (s : State) : (setSlot k c s).pos = s.pos := by
  rfl
@[simp] theorem setSlot_map (k : Slot) (c : Option ClaimValue) (s : State) : (setSlot k c s).map = s.map := by
  rfl
@[simp] theorem setSlot_jobs (k : Slot) (c : Option ClaimValue) (s : State) : (setSlot k c s).jobs = s.jobs := by
  rfl
@[simp] theorem setSlot_register (k : Slot) (c : Option ClaimValue) (s : State) : (setSlot k c s).register = s.register := by
  rfl
@[simp] theorem setSlot_emboss (k : Slot) (c : Option ClaimValue) (s : State) : (setSlot k c s).emboss = s.emboss := by
  rfl
@[simp] theorem setSlot_rolls (k : Slot) (c : Option ClaimValue) (s : State) : (setSlot k c s).rolls = s.rolls := by
  rfl
@[simp] theorem setSlot_shade (k : Slot) (c : Option ClaimValue) (s : State) : (setSlot k c s).shade = s.shade := by
  rfl
@[simp] theorem setSlot_labels (k : Slot) (c : Option ClaimValue) (s : State) : (setSlot k c s).labels = s.labels := by
  rfl
@[simp] theorem setSlot_link (k : Slot) (c : Option ClaimValue) (s : State) : (setSlot k c s).link = s.link := by
  rfl
@[simp] theorem setSlot_pins (k : Slot) (c : Option ClaimValue) (s : State) : (setSlot k c s).pins = s.pins := by
  rfl
@[simp] theorem setSlot_model (k : Slot) (c : Option ClaimValue) (s : State) : (setSlot k c s).model = s.model := by
  rfl
@[simp] theorem setSlot_pending (k : Slot) (c : Option ClaimValue) (s : State) : (setSlot k c s).pending = s.pending := by
  rfl

@[simp] theorem takeRelease_pos (m : Master) (s : State) : (takeRelease m s).pos = s.pos := by
  rfl
@[simp] theorem takeRelease_map (m : Master) (s : State) : (takeRelease m s).map = s.map := by
  rfl
@[simp] theorem takeRelease_jobs (m : Master) (s : State) : (takeRelease m s).jobs = s.jobs := by
  rfl
@[simp] theorem takeRelease_register (m : Master) (s : State) : (takeRelease m s).register = s.register := by
  rfl
@[simp] theorem takeRelease_emboss (m : Master) (s : State) : (takeRelease m s).emboss = s.emboss := by
  rfl
@[simp] theorem takeRelease_rolls (m : Master) (s : State) : (takeRelease m s).rolls = s.rolls := by
  rfl
@[simp] theorem takeRelease_shade (m : Master) (s : State) : (takeRelease m s).shade = s.shade := by
  rfl
@[simp] theorem takeRelease_labels (m : Master) (s : State) : (takeRelease m s).labels = s.labels := by
  rfl
@[simp] theorem takeRelease_link (m : Master) (s : State) : (takeRelease m s).link = s.link := by
  rfl
@[simp] theorem takeRelease_pins (m : Master) (s : State) : (takeRelease m s).pins = s.pins := by
  rfl
@[simp] theorem takeRelease_model (m : Master) (s : State) : (takeRelease m s).model = s.model := by
  rfl
@[simp] theorem takeRelease_pending (m : Master) (s : State) : (takeRelease m s).pending = s.pending := by
  rfl

@[simp] theorem takeClaim_pos (m : Master) (l : BitVec 8) (v : BitVec 16) (s : State) : (takeClaim m l v s).pos = s.pos := by
  unfold takeClaim; split <;> simp
@[simp] theorem takeClaim_map (m : Master) (l : BitVec 8) (v : BitVec 16) (s : State) : (takeClaim m l v s).map = s.map := by
  unfold takeClaim; split <;> simp
@[simp] theorem takeClaim_jobs (m : Master) (l : BitVec 8) (v : BitVec 16) (s : State) : (takeClaim m l v s).jobs = s.jobs := by
  unfold takeClaim; split <;> simp
@[simp] theorem takeClaim_register (m : Master) (l : BitVec 8) (v : BitVec 16) (s : State) : (takeClaim m l v s).register = s.register := by
  unfold takeClaim; split <;> simp
@[simp] theorem takeClaim_emboss (m : Master) (l : BitVec 8) (v : BitVec 16) (s : State) : (takeClaim m l v s).emboss = s.emboss := by
  unfold takeClaim; split <;> simp
@[simp] theorem takeClaim_rolls (m : Master) (l : BitVec 8) (v : BitVec 16) (s : State) : (takeClaim m l v s).rolls = s.rolls := by
  unfold takeClaim; split <;> simp
@[simp] theorem takeClaim_shade (m : Master) (l : BitVec 8) (v : BitVec 16) (s : State) : (takeClaim m l v s).shade = s.shade := by
  unfold takeClaim; split <;> simp
@[simp] theorem takeClaim_labels (m : Master) (l : BitVec 8) (v : BitVec 16) (s : State) : (takeClaim m l v s).labels = s.labels := by
  unfold takeClaim; split <;> simp
@[simp] theorem takeClaim_link (m : Master) (l : BitVec 8) (v : BitVec 16) (s : State) : (takeClaim m l v s).link = s.link := by
  unfold takeClaim; split <;> simp
@[simp] theorem takeClaim_pins (m : Master) (l : BitVec 8) (v : BitVec 16) (s : State) : (takeClaim m l v s).pins = s.pins := by
  unfold takeClaim; split <;> simp
@[simp] theorem takeClaim_model (m : Master) (l : BitVec 8) (v : BitVec 16) (s : State) : (takeClaim m l v s).model = s.model := by
  unfold takeClaim; split <;> simp
@[simp] theorem takeClaim_pending (m : Master) (l : BitVec 8) (v : BitVec 16) (s : State) : (takeClaim m l v s).pending = s.pending := by
  unfold takeClaim; split <;> simp

@[simp] theorem takeRunSpeed_pos (r c : Nat) (s : State) : (takeRunSpeed r c s).pos = s.pos := by
  rfl
@[simp] theorem takeRunSpeed_map (r c : Nat) (s : State) : (takeRunSpeed r c s).map = s.map := by
  rfl
@[simp] theorem takeRunSpeed_jobs (r c : Nat) (s : State) : (takeRunSpeed r c s).jobs = s.jobs := by
  rfl
@[simp] theorem takeRunSpeed_register (r c : Nat) (s : State) : (takeRunSpeed r c s).register = s.register := by
  rfl
@[simp] theorem takeRunSpeed_emboss (r c : Nat) (s : State) : (takeRunSpeed r c s).emboss = s.emboss := by
  rfl
@[simp] theorem takeRunSpeed_rolls (r c : Nat) (s : State) : (takeRunSpeed r c s).rolls = s.rolls := by
  rfl
@[simp] theorem takeRunSpeed_shade (r c : Nat) (s : State) : (takeRunSpeed r c s).shade = s.shade := by
  rfl
@[simp] theorem takeRunSpeed_labels (r c : Nat) (s : State) : (takeRunSpeed r c s).labels = s.labels := by
  rfl
@[simp] theorem takeRunSpeed_link (r c : Nat) (s : State) : (takeRunSpeed r c s).link = s.link := by
  rfl
@[simp] theorem takeRunSpeed_pins (r c : Nat) (s : State) : (takeRunSpeed r c s).pins = s.pins := by
  rfl
@[simp] theorem takeRunSpeed_model (r c : Nat) (s : State) : (takeRunSpeed r c s).model = s.model := by
  rfl
@[simp] theorem takeRunSpeed_pending (r c : Nat) (s : State) : (takeRunSpeed r c s).pending = s.pending := by
  rfl

@[simp] theorem takeGate_pos (g : Bool) (s : State) : (takeGate g s).pos = s.pos := by
  unfold takeGate; split <;> simp
@[simp] theorem takeGate_map (g : Bool) (s : State) : (takeGate g s).map = s.map := by
  unfold takeGate; split <;> simp
@[simp] theorem takeGate_jobs (g : Bool) (s : State) : (takeGate g s).jobs = s.jobs := by
  unfold takeGate; split <;> simp
@[simp] theorem takeGate_register (g : Bool) (s : State) : (takeGate g s).register = s.register := by
  unfold takeGate; split <;> simp
@[simp] theorem takeGate_emboss (g : Bool) (s : State) : (takeGate g s).emboss = s.emboss := by
  unfold takeGate; split <;> simp
@[simp] theorem takeGate_rolls (g : Bool) (s : State) : (takeGate g s).rolls = s.rolls := by
  unfold takeGate; split <;> simp
@[simp] theorem takeGate_shade (g : Bool) (s : State) : (takeGate g s).shade = s.shade := by
  unfold takeGate; split <;> simp
@[simp] theorem takeGate_labels (g : Bool) (s : State) : (takeGate g s).labels = s.labels := by
  unfold takeGate; split <;> simp
@[simp] theorem takeGate_link (g : Bool) (s : State) : (takeGate g s).link = s.link := by
  unfold takeGate; split <;> simp
@[simp] theorem takeGate_pins (g : Bool) (s : State) : (takeGate g s).pins = s.pins := by
  unfold takeGate; split <;> simp
@[simp] theorem takeGate_model (g : Bool) (s : State) : (takeGate g s).model = s.model := by
  unfold takeGate; split <;> simp
@[simp] theorem takeGate_pending (g : Bool) (s : State) : (takeGate g s).pending = s.pending := by
  unfold takeGate; split <;> simp

/-! ### Register control -/

@[simp] theorem setStation_pos (st : Station) (r : StationRecord) (s : State) : (setStation st r s).pos = s.pos := by
  rfl
@[simp] theorem setStation_map (st : Station) (r : StationRecord) (s : State) : (setStation st r s).map = s.map := by
  rfl
@[simp] theorem setStation_jobs (st : Station) (r : StationRecord) (s : State) : (setStation st r s).jobs = s.jobs := by
  rfl
@[simp] theorem setStation_emboss (st : Station) (r : StationRecord) (s : State) : (setStation st r s).emboss = s.emboss := by
  rfl
@[simp] theorem setStation_rolls (st : Station) (r : StationRecord) (s : State) : (setStation st r s).rolls = s.rolls := by
  rfl
@[simp] theorem setStation_shade (st : Station) (r : StationRecord) (s : State) : (setStation st r s).shade = s.shade := by
  rfl
@[simp] theorem setStation_labels (st : Station) (r : StationRecord) (s : State) : (setStation st r s).labels = s.labels := by
  rfl
@[simp] theorem setStation_speed (st : Station) (r : StationRecord) (s : State) : (setStation st r s).speed = s.speed := by
  rfl
@[simp] theorem setStation_link (st : Station) (r : StationRecord) (s : State) : (setStation st r s).link = s.link := by
  rfl
@[simp] theorem setStation_pins (st : Station) (r : StationRecord) (s : State) : (setStation st r s).pins = s.pins := by
  rfl
@[simp] theorem setStation_model (st : Station) (r : StationRecord) (s : State) : (setStation st r s).model = s.model := by
  rfl
@[simp] theorem setStation_pending (st : Station) (r : StationRecord) (s : State) : (setStation st r s).pending = s.pending := by
  rfl

@[simp] theorem writeResult_pos (st : Station) (n : Nat) (res : StationResult) (s : State) : (writeResult st n res s).pos = s.pos := by
  rfl
@[simp] theorem writeResult_jobs (st : Station) (n : Nat) (res : StationResult) (s : State) : (writeResult st n res s).jobs = s.jobs := by
  rfl
@[simp] theorem writeResult_register (st : Station) (n : Nat) (res : StationResult) (s : State) : (writeResult st n res s).register = s.register := by
  rfl
@[simp] theorem writeResult_emboss (st : Station) (n : Nat) (res : StationResult) (s : State) : (writeResult st n res s).emboss = s.emboss := by
  rfl
@[simp] theorem writeResult_rolls (st : Station) (n : Nat) (res : StationResult) (s : State) : (writeResult st n res s).rolls = s.rolls := by
  rfl
@[simp] theorem writeResult_shade (st : Station) (n : Nat) (res : StationResult) (s : State) : (writeResult st n res s).shade = s.shade := by
  rfl
@[simp] theorem writeResult_labels (st : Station) (n : Nat) (res : StationResult) (s : State) : (writeResult st n res s).labels = s.labels := by
  rfl
@[simp] theorem writeResult_speed (st : Station) (n : Nat) (res : StationResult) (s : State) : (writeResult st n res s).speed = s.speed := by
  rfl
@[simp] theorem writeResult_link (st : Station) (n : Nat) (res : StationResult) (s : State) : (writeResult st n res s).link = s.link := by
  rfl
@[simp] theorem writeResult_pins (st : Station) (n : Nat) (res : StationResult) (s : State) : (writeResult st n res s).pins = s.pins := by
  rfl
@[simp] theorem writeResult_model (st : Station) (n : Nat) (res : StationResult) (s : State) : (writeResult st n res s).model = s.model := by
  rfl
@[simp] theorem writeResult_pending (st : Station) (n : Nat) (res : StationResult) (s : State) : (writeResult st n res s).pending = s.pending := by
  rfl

@[simp] theorem updateRegClaim_pos (s : State) : (updateRegClaim s).pos = s.pos := by
  unfold updateRegClaim; split <;> simp
@[simp] theorem updateRegClaim_map (s : State) : (updateRegClaim s).map = s.map := by
  unfold updateRegClaim; split <;> simp
@[simp] theorem updateRegClaim_jobs (s : State) : (updateRegClaim s).jobs = s.jobs := by
  unfold updateRegClaim; split <;> simp
@[simp] theorem updateRegClaim_register (s : State) : (updateRegClaim s).register = s.register := by
  unfold updateRegClaim; split <;> simp
@[simp] theorem updateRegClaim_emboss (s : State) : (updateRegClaim s).emboss = s.emboss := by
  unfold updateRegClaim; split <;> simp
@[simp] theorem updateRegClaim_rolls (s : State) : (updateRegClaim s).rolls = s.rolls := by
  unfold updateRegClaim; split <;> simp
@[simp] theorem updateRegClaim_shade (s : State) : (updateRegClaim s).shade = s.shade := by
  unfold updateRegClaim; split <;> simp
@[simp] theorem updateRegClaim_labels (s : State) : (updateRegClaim s).labels = s.labels := by
  unfold updateRegClaim; split <;> simp
@[simp] theorem updateRegClaim_link (s : State) : (updateRegClaim s).link = s.link := by
  unfold updateRegClaim; split <;> simp
@[simp] theorem updateRegClaim_pins (s : State) : (updateRegClaim s).pins = s.pins := by
  unfold updateRegClaim; split <;> simp
@[simp] theorem updateRegClaim_model (s : State) : (updateRegClaim s).model = s.model := by
  unfold updateRegClaim; split <;> simp
@[simp] theorem updateRegClaim_pending (s : State) : (updateRegClaim s).pending = s.pending := by
  unfold updateRegClaim; split <;> simp

@[simp] theorem enterLost_pos (st : Station) (s : State) : (enterLost st s).pos = s.pos := by
  simp [enterLost]
@[simp] theorem enterLost_map (st : Station) (s : State) : (enterLost st s).map = s.map := by
  simp [enterLost]
@[simp] theorem enterLost_jobs (st : Station) (s : State) : (enterLost st s).jobs = s.jobs := by
  simp [enterLost]
@[simp] theorem enterLost_emboss (st : Station) (s : State) : (enterLost st s).emboss = s.emboss := by
  simp [enterLost]
@[simp] theorem enterLost_rolls (st : Station) (s : State) : (enterLost st s).rolls = s.rolls := by
  simp [enterLost]
@[simp] theorem enterLost_shade (st : Station) (s : State) : (enterLost st s).shade = s.shade := by
  simp [enterLost]
@[simp] theorem enterLost_labels (st : Station) (s : State) : (enterLost st s).labels = s.labels := by
  simp [enterLost]
@[simp] theorem enterLost_pins (st : Station) (s : State) : (enterLost st s).pins = s.pins := by
  simp [enterLost]
@[simp] theorem enterLost_model (st : Station) (s : State) : (enterLost st s).model = s.model := by
  simp [enterLost]
@[simp] theorem enterLost_pending (st : Station) (s : State) : (enterLost st s).pending = s.pending := by
  simp [enterLost]

@[simp] theorem stationOff_pos (st : Station) (s : State) : (stationOff st s).pos = s.pos := by
  unfold stationOff; split <;> simp
@[simp] theorem stationOff_map (st : Station) (s : State) : (stationOff st s).map = s.map := by
  unfold stationOff; split <;> simp
@[simp] theorem stationOff_jobs (st : Station) (s : State) : (stationOff st s).jobs = s.jobs := by
  unfold stationOff; split <;> simp
@[simp] theorem stationOff_emboss (st : Station) (s : State) : (stationOff st s).emboss = s.emboss := by
  unfold stationOff; split <;> simp
@[simp] theorem stationOff_rolls (st : Station) (s : State) : (stationOff st s).rolls = s.rolls := by
  unfold stationOff; split <;> simp
@[simp] theorem stationOff_shade (st : Station) (s : State) : (stationOff st s).shade = s.shade := by
  unfold stationOff; split <;> simp
@[simp] theorem stationOff_labels (st : Station) (s : State) : (stationOff st s).labels = s.labels := by
  unfold stationOff; split <;> simp
@[simp] theorem stationOff_link (st : Station) (s : State) : (stationOff st s).link = s.link := by
  unfold stationOff; split <;> simp
@[simp] theorem stationOff_pins (st : Station) (s : State) : (stationOff st s).pins = s.pins := by
  unfold stationOff; split <;> simp
@[simp] theorem stationOff_model (st : Station) (s : State) : (stationOff st s).model = s.model := by
  unfold stationOff; split <;> simp
@[simp] theorem stationOff_pending (st : Station) (s : State) : (stationOff st s).pending = s.pending := by
  unfold stationOff; split <;> simp

@[simp] theorem placeWindow_pos (st : Station) (rec : Repeat) (s : State) : (placeWindow st rec s).pos = s.pos := by
  unfold placeWindow; dsimp only; repeat' split
  all_goals simp
@[simp] theorem placeWindow_map (st : Station) (rec : Repeat) (s : State) : (placeWindow st rec s).map = s.map := by
  unfold placeWindow; dsimp only; repeat' split
  all_goals simp
@[simp] theorem placeWindow_jobs (st : Station) (rec : Repeat) (s : State) : (placeWindow st rec s).jobs = s.jobs := by
  unfold placeWindow; dsimp only; repeat' split
  all_goals simp
@[simp] theorem placeWindow_emboss (st : Station) (rec : Repeat) (s : State) : (placeWindow st rec s).emboss = s.emboss := by
  unfold placeWindow; dsimp only; repeat' split
  all_goals simp
@[simp] theorem placeWindow_rolls (st : Station) (rec : Repeat) (s : State) : (placeWindow st rec s).rolls = s.rolls := by
  unfold placeWindow; dsimp only; repeat' split
  all_goals simp
@[simp] theorem placeWindow_shade (st : Station) (rec : Repeat) (s : State) : (placeWindow st rec s).shade = s.shade := by
  unfold placeWindow; dsimp only; repeat' split
  all_goals simp
@[simp] theorem placeWindow_labels (st : Station) (rec : Repeat) (s : State) : (placeWindow st rec s).labels = s.labels := by
  unfold placeWindow; dsimp only; repeat' split
  all_goals simp
@[simp] theorem placeWindow_speed (st : Station) (rec : Repeat) (s : State) : (placeWindow st rec s).speed = s.speed := by
  unfold placeWindow; dsimp only; repeat' split
  all_goals simp
@[simp] theorem placeWindow_link (st : Station) (rec : Repeat) (s : State) : (placeWindow st rec s).link = s.link := by
  unfold placeWindow; dsimp only; repeat' split
  all_goals simp
@[simp] theorem placeWindow_pins (st : Station) (rec : Repeat) (s : State) : (placeWindow st rec s).pins = s.pins := by
  unfold placeWindow; dsimp only; repeat' split
  all_goals simp
@[simp] theorem placeWindow_model (st : Station) (rec : Repeat) (s : State) : (placeWindow st rec s).model = s.model := by
  unfold placeWindow; dsimp only; repeat' split
  all_goals simp
@[simp] theorem placeWindow_pending (st : Station) (rec : Repeat) (s : State) : (placeWindow st rec s).pending = s.pending := by
  unfold placeWindow; dsimp only; repeat' split
  all_goals simp

@[simp] theorem advanceCursor_pos (st : Station) (s : State) : (advanceCursor st s).pos = s.pos := by
  rfl
@[simp] theorem advanceCursor_map (st : Station) (s : State) : (advanceCursor st s).map = s.map := by
  rfl
@[simp] theorem advanceCursor_jobs (st : Station) (s : State) : (advanceCursor st s).jobs = s.jobs := by
  rfl
@[simp] theorem advanceCursor_emboss (st : Station) (s : State) : (advanceCursor st s).emboss = s.emboss := by
  rfl
@[simp] theorem advanceCursor_rolls (st : Station) (s : State) : (advanceCursor st s).rolls = s.rolls := by
  rfl
@[simp] theorem advanceCursor_shade (st : Station) (s : State) : (advanceCursor st s).shade = s.shade := by
  rfl
@[simp] theorem advanceCursor_labels (st : Station) (s : State) : (advanceCursor st s).labels = s.labels := by
  rfl
@[simp] theorem advanceCursor_speed (st : Station) (s : State) : (advanceCursor st s).speed = s.speed := by
  rfl
@[simp] theorem advanceCursor_link (st : Station) (s : State) : (advanceCursor st s).link = s.link := by
  rfl
@[simp] theorem advanceCursor_pins (st : Station) (s : State) : (advanceCursor st s).pins = s.pins := by
  rfl
@[simp] theorem advanceCursor_model (st : Station) (s : State) : (advanceCursor st s).model = s.model := by
  rfl
@[simp] theorem advanceCursor_pending (st : Station) (s : State) : (advanceCursor st s).pending = s.pending := by
  rfl

@[simp] theorem skipRecord_pos (st : Station) (n : Nat) (s : State) : (skipRecord st n s).pos = s.pos := by
  rfl
@[simp] theorem skipRecord_jobs (st : Station) (n : Nat) (s : State) : (skipRecord st n s).jobs = s.jobs := by
  rfl
@[simp] theorem skipRecord_emboss (st : Station) (n : Nat) (s : State) : (skipRecord st n s).emboss = s.emboss := by
  rfl
@[simp] theorem skipRecord_rolls (st : Station) (n : Nat) (s : State) : (skipRecord st n s).rolls = s.rolls := by
  rfl
@[simp] theorem skipRecord_shade (st : Station) (n : Nat) (s : State) : (skipRecord st n s).shade = s.shade := by
  rfl
@[simp] theorem skipRecord_labels (st : Station) (n : Nat) (s : State) : (skipRecord st n s).labels = s.labels := by
  rfl
@[simp] theorem skipRecord_speed (st : Station) (n : Nat) (s : State) : (skipRecord st n s).speed = s.speed := by
  rfl
@[simp] theorem skipRecord_link (st : Station) (n : Nat) (s : State) : (skipRecord st n s).link = s.link := by
  rfl
@[simp] theorem skipRecord_pins (st : Station) (n : Nat) (s : State) : (skipRecord st n s).pins = s.pins := by
  rfl
@[simp] theorem skipRecord_model (st : Station) (n : Nat) (s : State) : (skipRecord st n s).model = s.model := by
  rfl
@[simp] theorem skipRecord_pending (st : Station) (n : Nat) (s : State) : (skipRecord st n s).pending = s.pending := by
  rfl

@[simp] theorem switchStation_pos (st : Station) (rec : Repeat) (s : State) : (switchStation st rec s).pos = s.pos := by
  unfold switchStation; dsimp only; repeat' split
  all_goals simp
@[simp] theorem switchStation_map (st : Station) (rec : Repeat) (s : State) : (switchStation st rec s).map = s.map := by
  unfold switchStation; dsimp only; repeat' split
  all_goals simp
@[simp] theorem switchStation_jobs (st : Station) (rec : Repeat) (s : State) : (switchStation st rec s).jobs = s.jobs := by
  unfold switchStation; dsimp only; repeat' split
  all_goals simp
@[simp] theorem switchStation_emboss (st : Station) (rec : Repeat) (s : State) : (switchStation st rec s).emboss = s.emboss := by
  unfold switchStation; dsimp only; repeat' split
  all_goals simp
@[simp] theorem switchStation_rolls (st : Station) (rec : Repeat) (s : State) : (switchStation st rec s).rolls = s.rolls := by
  unfold switchStation; dsimp only; repeat' split
  all_goals simp
@[simp] theorem switchStation_shade (st : Station) (rec : Repeat) (s : State) : (switchStation st rec s).shade = s.shade := by
  unfold switchStation; dsimp only; repeat' split
  all_goals simp
@[simp] theorem switchStation_labels (st : Station) (rec : Repeat) (s : State) : (switchStation st rec s).labels = s.labels := by
  unfold switchStation; dsimp only; repeat' split
  all_goals simp
@[simp] theorem switchStation_pins (st : Station) (rec : Repeat) (s : State) : (switchStation st rec s).pins = s.pins := by
  unfold switchStation; dsimp only; repeat' split
  all_goals simp
@[simp] theorem switchStation_model (st : Station) (rec : Repeat) (s : State) : (switchStation st rec s).model = s.model := by
  unfold switchStation; dsimp only; repeat' split
  all_goals simp
@[simp] theorem switchStation_pending (st : Station) (rec : Repeat) (s : State) : (switchStation st rec s).pending = s.pending := by
  unfold switchStation; dsimp only; repeat' split
  all_goals simp

@[simp] theorem missRecord_pos (st : Station) (rec : Repeat) (s : State) : (missRecord st rec s).pos = s.pos := by
  unfold missRecord; dsimp only; split <;> simp
@[simp] theorem missRecord_jobs (st : Station) (rec : Repeat) (s : State) : (missRecord st rec s).jobs = s.jobs := by
  unfold missRecord; dsimp only; split <;> simp
@[simp] theorem missRecord_emboss (st : Station) (rec : Repeat) (s : State) : (missRecord st rec s).emboss = s.emboss := by
  unfold missRecord; dsimp only; split <;> simp
@[simp] theorem missRecord_rolls (st : Station) (rec : Repeat) (s : State) : (missRecord st rec s).rolls = s.rolls := by
  unfold missRecord; dsimp only; split <;> simp
@[simp] theorem missRecord_shade (st : Station) (rec : Repeat) (s : State) : (missRecord st rec s).shade = s.shade := by
  unfold missRecord; dsimp only; split <;> simp
@[simp] theorem missRecord_labels (st : Station) (rec : Repeat) (s : State) : (missRecord st rec s).labels = s.labels := by
  unfold missRecord; dsimp only; split <;> simp
@[simp] theorem missRecord_pins (st : Station) (rec : Repeat) (s : State) : (missRecord st rec s).pins = s.pins := by
  unfold missRecord; dsimp only; split <;> simp
@[simp] theorem missRecord_model (st : Station) (rec : Repeat) (s : State) : (missRecord st rec s).model = s.model := by
  unfold missRecord; dsimp only; split <;> simp
@[simp] theorem missRecord_pending (st : Station) (rec : Repeat) (s : State) : (missRecord st rec s).pending = s.pending := by
  unfold missRecord; dsimp only; split <;> simp

@[simp] theorem deferMiss_pos (st : Station) (s : State) : (deferMiss st s).pos = s.pos := by
  rfl
@[simp] theorem deferMiss_map (st : Station) (s : State) : (deferMiss st s).map = s.map := by
  rfl
@[simp] theorem deferMiss_jobs (st : Station) (s : State) : (deferMiss st s).jobs = s.jobs := by
  rfl
@[simp] theorem deferMiss_emboss (st : Station) (s : State) : (deferMiss st s).emboss = s.emboss := by
  rfl
@[simp] theorem deferMiss_rolls (st : Station) (s : State) : (deferMiss st s).rolls = s.rolls := by
  rfl
@[simp] theorem deferMiss_shade (st : Station) (s : State) : (deferMiss st s).shade = s.shade := by
  rfl
@[simp] theorem deferMiss_labels (st : Station) (s : State) : (deferMiss st s).labels = s.labels := by
  rfl
@[simp] theorem deferMiss_speed (st : Station) (s : State) : (deferMiss st s).speed = s.speed := by
  rfl
@[simp] theorem deferMiss_link (st : Station) (s : State) : (deferMiss st s).link = s.link := by
  rfl
@[simp] theorem deferMiss_pins (st : Station) (s : State) : (deferMiss st s).pins = s.pins := by
  rfl
@[simp] theorem deferMiss_model (st : Station) (s : State) : (deferMiss st s).model = s.model := by
  rfl
@[simp] theorem deferMiss_pending (st : Station) (s : State) : (deferMiss st s).pending = s.pending := by
  rfl

@[simp] theorem settleStation_pos (st : Station) (n : Nat) (s : State) : (settleStation st n s).pos = s.pos := by
  induction n generalizing s with
  | zero => rfl
  | succ n ih =>
    unfold settleStation; repeat' split
    all_goals simp [ih]
@[simp] theorem settleStation_jobs (st : Station) (n : Nat) (s : State) : (settleStation st n s).jobs = s.jobs := by
  induction n generalizing s with
  | zero => rfl
  | succ n ih =>
    unfold settleStation; repeat' split
    all_goals simp [ih]
@[simp] theorem settleStation_emboss (st : Station) (n : Nat) (s : State) : (settleStation st n s).emboss = s.emboss := by
  induction n generalizing s with
  | zero => rfl
  | succ n ih =>
    unfold settleStation; repeat' split
    all_goals simp [ih]
@[simp] theorem settleStation_rolls (st : Station) (n : Nat) (s : State) : (settleStation st n s).rolls = s.rolls := by
  induction n generalizing s with
  | zero => rfl
  | succ n ih =>
    unfold settleStation; repeat' split
    all_goals simp [ih]
@[simp] theorem settleStation_shade (st : Station) (n : Nat) (s : State) : (settleStation st n s).shade = s.shade := by
  induction n generalizing s with
  | zero => rfl
  | succ n ih =>
    unfold settleStation; repeat' split
    all_goals simp [ih]
@[simp] theorem settleStation_labels (st : Station) (n : Nat) (s : State) : (settleStation st n s).labels = s.labels := by
  induction n generalizing s with
  | zero => rfl
  | succ n ih =>
    unfold settleStation; repeat' split
    all_goals simp [ih]
@[simp] theorem settleStation_pins (st : Station) (n : Nat) (s : State) : (settleStation st n s).pins = s.pins := by
  induction n generalizing s with
  | zero => rfl
  | succ n ih =>
    unfold settleStation; repeat' split
    all_goals simp [ih]
@[simp] theorem settleStation_model (st : Station) (n : Nat) (s : State) : (settleStation st n s).model = s.model := by
  induction n generalizing s with
  | zero => rfl
  | succ n ih =>
    unfold settleStation; repeat' split
    all_goals simp [ih]
@[simp] theorem settleStation_pending (st : Station) (n : Nat) (s : State) : (settleStation st n s).pending = s.pending := by
  induction n generalizing s with
  | zero => rfl
  | succ n ih =>
    unfold settleStation; repeat' split
    all_goals simp [ih]

@[simp] theorem restStation_pos (st : Station) (s : State) : (restStation st s).pos = s.pos := by
  simp [restStation]
@[simp] theorem restStation_jobs (st : Station) (s : State) : (restStation st s).jobs = s.jobs := by
  simp [restStation]
@[simp] theorem restStation_emboss (st : Station) (s : State) : (restStation st s).emboss = s.emboss := by
  simp [restStation]
@[simp] theorem restStation_rolls (st : Station) (s : State) : (restStation st s).rolls = s.rolls := by
  simp [restStation]
@[simp] theorem restStation_shade (st : Station) (s : State) : (restStation st s).shade = s.shade := by
  simp [restStation]
@[simp] theorem restStation_labels (st : Station) (s : State) : (restStation st s).labels = s.labels := by
  simp [restStation]
@[simp] theorem restStation_pins (st : Station) (s : State) : (restStation st s).pins = s.pins := by
  simp [restStation]
@[simp] theorem restStation_model (st : Station) (s : State) : (restStation st s).model = s.model := by
  simp [restStation]
@[simp] theorem restStation_pending (st : Station) (s : State) : (restStation st s).pending = s.pending := by
  simp [restStation]

@[simp] theorem recheckStations_pos (s : State) : (recheckStations s).pos = s.pos := by
  exact foldl_keeps (·.pos) _ (fun _ _ => by simp) _ _
@[simp] theorem recheckStations_jobs (s : State) : (recheckStations s).jobs = s.jobs := by
  exact foldl_keeps (·.jobs) _ (fun _ _ => by simp) _ _
@[simp] theorem recheckStations_emboss (s : State) : (recheckStations s).emboss = s.emboss := by
  exact foldl_keeps (·.emboss) _ (fun _ _ => by simp) _ _
@[simp] theorem recheckStations_rolls (s : State) : (recheckStations s).rolls = s.rolls := by
  exact foldl_keeps (·.rolls) _ (fun _ _ => by simp) _ _
@[simp] theorem recheckStations_shade (s : State) : (recheckStations s).shade = s.shade := by
  exact foldl_keeps (·.shade) _ (fun _ _ => by simp) _ _
@[simp] theorem recheckStations_labels (s : State) : (recheckStations s).labels = s.labels := by
  exact foldl_keeps (·.labels) _ (fun _ _ => by simp) _ _
@[simp] theorem recheckStations_pins (s : State) : (recheckStations s).pins = s.pins := by
  exact foldl_keeps (·.pins) _ (fun _ _ => by simp) _ _
@[simp] theorem recheckStations_model (s : State) : (recheckStations s).model = s.model := by
  exact foldl_keeps (·.model) _ (fun _ _ => by simp) _ _
@[simp] theorem recheckStations_pending (s : State) : (recheckStations s).pending = s.pending := by
  exact foldl_keeps (·.pending) _ (fun _ _ => by simp) _ _

@[simp] theorem stationMiss_pos (st : Station) (rec : Repeat) (s : State) : (stationMiss st rec s).pos = s.pos := by
  simp [stationMiss]
@[simp] theorem stationMiss_jobs (st : Station) (rec : Repeat) (s : State) : (stationMiss st rec s).jobs = s.jobs := by
  simp [stationMiss]
@[simp] theorem stationMiss_emboss (st : Station) (rec : Repeat) (s : State) : (stationMiss st rec s).emboss = s.emboss := by
  simp [stationMiss]
@[simp] theorem stationMiss_rolls (st : Station) (rec : Repeat) (s : State) : (stationMiss st rec s).rolls = s.rolls := by
  simp [stationMiss]
@[simp] theorem stationMiss_shade (st : Station) (rec : Repeat) (s : State) : (stationMiss st rec s).shade = s.shade := by
  simp [stationMiss]
@[simp] theorem stationMiss_labels (st : Station) (rec : Repeat) (s : State) : (stationMiss st rec s).labels = s.labels := by
  simp [stationMiss]
@[simp] theorem stationMiss_pins (st : Station) (rec : Repeat) (s : State) : (stationMiss st rec s).pins = s.pins := by
  simp [stationMiss]
@[simp] theorem stationMiss_model (st : Station) (rec : Repeat) (s : State) : (stationMiss st rec s).model = s.model := by
  simp [stationMiss]
@[simp] theorem stationMiss_pending (st : Station) (rec : Repeat) (s : State) : (stationMiss st rec s).pending = s.pending := by
  simp [stationMiss]

@[simp] theorem stationWindowEnd_pos (st : Station) (s : State) : (stationWindowEnd st s).pos = s.pos := by
  unfold stationWindowEnd; repeat' split
  all_goals simp
@[simp] theorem stationWindowEnd_jobs (st : Station) (s : State) : (stationWindowEnd st s).jobs = s.jobs := by
  unfold stationWindowEnd; repeat' split
  all_goals simp
@[simp] theorem stationWindowEnd_emboss (st : Station) (s : State) : (stationWindowEnd st s).emboss = s.emboss := by
  unfold stationWindowEnd; repeat' split
  all_goals simp
@[simp] theorem stationWindowEnd_rolls (st : Station) (s : State) : (stationWindowEnd st s).rolls = s.rolls := by
  unfold stationWindowEnd; repeat' split
  all_goals simp
@[simp] theorem stationWindowEnd_shade (st : Station) (s : State) : (stationWindowEnd st s).shade = s.shade := by
  unfold stationWindowEnd; repeat' split
  all_goals simp
@[simp] theorem stationWindowEnd_labels (st : Station) (s : State) : (stationWindowEnd st s).labels = s.labels := by
  unfold stationWindowEnd; repeat' split
  all_goals simp
@[simp] theorem stationWindowEnd_pins (st : Station) (s : State) : (stationWindowEnd st s).pins = s.pins := by
  unfold stationWindowEnd; repeat' split
  all_goals simp
@[simp] theorem stationWindowEnd_model (st : Station) (s : State) : (stationWindowEnd st s).model = s.model := by
  unfold stationWindowEnd; repeat' split
  all_goals simp
@[simp] theorem stationWindowEnd_pending (st : Station) (s : State) : (stationWindowEnd st s).pending = s.pending := by
  unfold stationWindowEnd; repeat' split
  all_goals simp

@[simp] theorem station7Status_pos (n : Nat) (s : State) : (station7Status n s).pos = s.pos := by
  unfold station7Status; dsimp only; repeat' split
  all_goals simp
@[simp] theorem station7Status_jobs (n : Nat) (s : State) : (station7Status n s).jobs = s.jobs := by
  unfold station7Status; dsimp only; repeat' split
  all_goals simp
@[simp] theorem station7Status_emboss (n : Nat) (s : State) : (station7Status n s).emboss = s.emboss := by
  unfold station7Status; dsimp only; repeat' split
  all_goals simp
@[simp] theorem station7Status_rolls (n : Nat) (s : State) : (station7Status n s).rolls = s.rolls := by
  unfold station7Status; dsimp only; repeat' split
  all_goals simp
@[simp] theorem station7Status_shade (n : Nat) (s : State) : (station7Status n s).shade = s.shade := by
  unfold station7Status; dsimp only; repeat' split
  all_goals simp
@[simp] theorem station7Status_labels (n : Nat) (s : State) : (station7Status n s).labels = s.labels := by
  unfold station7Status; dsimp only; repeat' split
  all_goals simp
@[simp] theorem station7Status_pins (n : Nat) (s : State) : (station7Status n s).pins = s.pins := by
  unfold station7Status; dsimp only; repeat' split
  all_goals simp
@[simp] theorem station7Status_model (n : Nat) (s : State) : (station7Status n s).model = s.model := by
  unfold station7Status; dsimp only; repeat' split
  all_goals simp
@[simp] theorem station7Status_pending (n : Nat) (s : State) : (station7Status n s).pending = s.pending := by
  unfold station7Status; dsimp only; repeat' split
  all_goals simp

@[simp] theorem stationMatch_pos (st : Station) (rec : Repeat) (w : Window) (s : State) : (stationMatch st rec w s).pos = s.pos := by
  unfold stationMatch; dsimp only; split <;> simp
@[simp] theorem stationMatch_jobs (st : Station) (rec : Repeat) (w : Window) (s : State) : (stationMatch st rec w s).jobs = s.jobs := by
  unfold stationMatch; dsimp only; split <;> simp
@[simp] theorem stationMatch_emboss (st : Station) (rec : Repeat) (w : Window) (s : State) : (stationMatch st rec w s).emboss = s.emboss := by
  unfold stationMatch; dsimp only; split <;> simp
@[simp] theorem stationMatch_rolls (st : Station) (rec : Repeat) (w : Window) (s : State) : (stationMatch st rec w s).rolls = s.rolls := by
  unfold stationMatch; dsimp only; split <;> simp
@[simp] theorem stationMatch_shade (st : Station) (rec : Repeat) (w : Window) (s : State) : (stationMatch st rec w s).shade = s.shade := by
  unfold stationMatch; dsimp only; split <;> simp
@[simp] theorem stationMatch_labels (st : Station) (rec : Repeat) (w : Window) (s : State) : (stationMatch st rec w s).labels = s.labels := by
  unfold stationMatch; dsimp only; split <;> simp
@[simp] theorem stationMatch_pins (st : Station) (rec : Repeat) (w : Window) (s : State) : (stationMatch st rec w s).pins = s.pins := by
  unfold stationMatch; dsimp only; split <;> simp
@[simp] theorem stationMatch_model (st : Station) (rec : Repeat) (w : Window) (s : State) : (stationMatch st rec w s).model = s.model := by
  unfold stationMatch; dsimp only; split <;> simp
@[simp] theorem stationMatch_pending (st : Station) (rec : Repeat) (w : Window) (s : State) : (stationMatch st rec w s).pending = s.pending := by
  unfold stationMatch; dsimp only; split <;> simp

@[simp] theorem stationStray_pos (st : Station) (s : State) : (stationStray st s).pos = s.pos := by
  rfl
@[simp] theorem stationStray_map (st : Station) (s : State) : (stationStray st s).map = s.map := by
  rfl
@[simp] theorem stationStray_jobs (st : Station) (s : State) : (stationStray st s).jobs = s.jobs := by
  rfl
@[simp] theorem stationStray_emboss (st : Station) (s : State) : (stationStray st s).emboss = s.emboss := by
  rfl
@[simp] theorem stationStray_rolls (st : Station) (s : State) : (stationStray st s).rolls = s.rolls := by
  rfl
@[simp] theorem stationStray_shade (st : Station) (s : State) : (stationStray st s).shade = s.shade := by
  rfl
@[simp] theorem stationStray_labels (st : Station) (s : State) : (stationStray st s).labels = s.labels := by
  rfl
@[simp] theorem stationStray_speed (st : Station) (s : State) : (stationStray st s).speed = s.speed := by
  rfl
@[simp] theorem stationStray_link (st : Station) (s : State) : (stationStray st s).link = s.link := by
  rfl
@[simp] theorem stationStray_pins (st : Station) (s : State) : (stationStray st s).pins = s.pins := by
  rfl
@[simp] theorem stationStray_model (st : Station) (s : State) : (stationStray st s).model = s.model := by
  rfl
@[simp] theorem stationStray_pending (st : Station) (s : State) : (stationStray st s).pending = s.pending := by
  rfl

@[simp] theorem takeStationMark_pos (st : Station) (s : State) : (takeStationMark st s).pos = s.pos := by
  unfold takeStationMark; dsimp only; repeat' split
  all_goals simp
@[simp] theorem takeStationMark_jobs (st : Station) (s : State) : (takeStationMark st s).jobs = s.jobs := by
  unfold takeStationMark; dsimp only; repeat' split
  all_goals simp
@[simp] theorem takeStationMark_emboss (st : Station) (s : State) : (takeStationMark st s).emboss = s.emboss := by
  unfold takeStationMark; dsimp only; repeat' split
  all_goals simp
@[simp] theorem takeStationMark_rolls (st : Station) (s : State) : (takeStationMark st s).rolls = s.rolls := by
  unfold takeStationMark; dsimp only; repeat' split
  all_goals simp
@[simp] theorem takeStationMark_shade (st : Station) (s : State) : (takeStationMark st s).shade = s.shade := by
  unfold takeStationMark; dsimp only; repeat' split
  all_goals simp
@[simp] theorem takeStationMark_labels (st : Station) (s : State) : (takeStationMark st s).labels = s.labels := by
  unfold takeStationMark; dsimp only; repeat' split
  all_goals simp
@[simp] theorem takeStationMark_pins (st : Station) (s : State) : (takeStationMark st s).pins = s.pins := by
  unfold takeStationMark; dsimp only; repeat' split
  all_goals simp
@[simp] theorem takeStationMark_model (st : Station) (s : State) : (takeStationMark st s).model = s.model := by
  unfold takeStationMark; dsimp only; repeat' split
  all_goals simp
@[simp] theorem takeStationMark_pending (st : Station) (s : State) : (takeStationMark st s).pending = s.pending := by
  unfold takeStationMark; dsimp only; repeat' split
  all_goals simp

@[simp] theorem startStation_pos (st : Station) (rec : Repeat) (s : State) : (startStation st rec s).pos = s.pos := by
  rfl
@[simp] theorem startStation_map (st : Station) (rec : Repeat) (s : State) : (startStation st rec s).map = s.map := by
  rfl
@[simp] theorem startStation_jobs (st : Station) (rec : Repeat) (s : State) : (startStation st rec s).jobs = s.jobs := by
  rfl
@[simp] theorem startStation_emboss (st : Station) (rec : Repeat) (s : State) : (startStation st rec s).emboss = s.emboss := by
  rfl
@[simp] theorem startStation_rolls (st : Station) (rec : Repeat) (s : State) : (startStation st rec s).rolls = s.rolls := by
  rfl
@[simp] theorem startStation_shade (st : Station) (rec : Repeat) (s : State) : (startStation st rec s).shade = s.shade := by
  rfl
@[simp] theorem startStation_labels (st : Station) (rec : Repeat) (s : State) : (startStation st rec s).labels = s.labels := by
  rfl
@[simp] theorem startStation_speed (st : Station) (rec : Repeat) (s : State) : (startStation st rec s).speed = s.speed := by
  rfl
@[simp] theorem startStation_link (st : Station) (rec : Repeat) (s : State) : (startStation st rec s).link = s.link := by
  rfl
@[simp] theorem startStation_pins (st : Station) (rec : Repeat) (s : State) : (startStation st rec s).pins = s.pins := by
  rfl
@[simp] theorem startStation_model (st : Station) (rec : Repeat) (s : State) : (startStation st rec s).model = s.model := by
  rfl
@[simp] theorem startStation_pending (st : Station) (rec : Repeat) (s : State) : (startStation st rec s).pending = s.pending := by
  rfl

@[simp] theorem stationAtCreation_pos (rec : Repeat) (s : State) (st : Station) : (stationAtCreation rec s st).pos = s.pos := by
  unfold stationAtCreation; repeat' split
  all_goals simp
@[simp] theorem stationAtCreation_jobs (rec : Repeat) (s : State) (st : Station) : (stationAtCreation rec s st).jobs = s.jobs := by
  unfold stationAtCreation; repeat' split
  all_goals simp
@[simp] theorem stationAtCreation_emboss (rec : Repeat) (s : State) (st : Station) : (stationAtCreation rec s st).emboss = s.emboss := by
  unfold stationAtCreation; repeat' split
  all_goals simp
@[simp] theorem stationAtCreation_rolls (rec : Repeat) (s : State) (st : Station) : (stationAtCreation rec s st).rolls = s.rolls := by
  unfold stationAtCreation; repeat' split
  all_goals simp
@[simp] theorem stationAtCreation_shade (rec : Repeat) (s : State) (st : Station) : (stationAtCreation rec s st).shade = s.shade := by
  unfold stationAtCreation; repeat' split
  all_goals simp
@[simp] theorem stationAtCreation_labels (rec : Repeat) (s : State) (st : Station) : (stationAtCreation rec s st).labels = s.labels := by
  unfold stationAtCreation; repeat' split
  all_goals simp
@[simp] theorem stationAtCreation_pins (rec : Repeat) (s : State) (st : Station) : (stationAtCreation rec s st).pins = s.pins := by
  unfold stationAtCreation; repeat' split
  all_goals simp
@[simp] theorem stationAtCreation_model (rec : Repeat) (s : State) (st : Station) : (stationAtCreation rec s st).model = s.model := by
  unfold stationAtCreation; repeat' split
  all_goals simp
@[simp] theorem stationAtCreation_pending (rec : Repeat) (s : State) (st : Station) : (stationAtCreation rec s st).pending = s.pending := by
  unfold stationAtCreation; repeat' split
  all_goals simp

@[simp] theorem stationsAtCreation_pos (rec : Repeat) (s : State) : (stationsAtCreation rec s).pos = s.pos := by
  exact foldl_keeps (·.pos) _ (fun _ _ => by simp) _ _
@[simp] theorem stationsAtCreation_jobs (rec : Repeat) (s : State) : (stationsAtCreation rec s).jobs = s.jobs := by
  exact foldl_keeps (·.jobs) _ (fun _ _ => by simp) _ _
@[simp] theorem stationsAtCreation_emboss (rec : Repeat) (s : State) : (stationsAtCreation rec s).emboss = s.emboss := by
  exact foldl_keeps (·.emboss) _ (fun _ _ => by simp) _ _
@[simp] theorem stationsAtCreation_rolls (rec : Repeat) (s : State) : (stationsAtCreation rec s).rolls = s.rolls := by
  exact foldl_keeps (·.rolls) _ (fun _ _ => by simp) _ _
@[simp] theorem stationsAtCreation_shade (rec : Repeat) (s : State) : (stationsAtCreation rec s).shade = s.shade := by
  exact foldl_keeps (·.shade) _ (fun _ _ => by simp) _ _
@[simp] theorem stationsAtCreation_labels (rec : Repeat) (s : State) : (stationsAtCreation rec s).labels = s.labels := by
  exact foldl_keeps (·.labels) _ (fun _ _ => by simp) _ _
@[simp] theorem stationsAtCreation_pins (rec : Repeat) (s : State) : (stationsAtCreation rec s).pins = s.pins := by
  exact foldl_keeps (·.pins) _ (fun _ _ => by simp) _ _
@[simp] theorem stationsAtCreation_model (rec : Repeat) (s : State) : (stationsAtCreation rec s).model = s.model := by
  exact foldl_keeps (·.model) _ (fun _ _ => by simp) _ _
@[simp] theorem stationsAtCreation_pending (rec : Repeat) (s : State) : (stationsAtCreation rec s).pending = s.pending := by
  exact foldl_keeps (·.pending) _ (fun _ _ => by simp) _ _

@[simp] theorem stationsAtJobClear_pos (tag : Nat) (s : State) : (stationsAtJobClear tag s).pos = s.pos := by
  exact foldl_keeps (·.pos) _ (fun _ _ => by split <;> simp) _ _
@[simp] theorem stationsAtJobClear_map (tag : Nat) (s : State) : (stationsAtJobClear tag s).map = s.map := by
  exact foldl_keeps (·.map) _ (fun _ _ => by split <;> simp) _ _
@[simp] theorem stationsAtJobClear_jobs (tag : Nat) (s : State) : (stationsAtJobClear tag s).jobs = s.jobs := by
  exact foldl_keeps (·.jobs) _ (fun _ _ => by split <;> simp) _ _
@[simp] theorem stationsAtJobClear_emboss (tag : Nat) (s : State) : (stationsAtJobClear tag s).emboss = s.emboss := by
  exact foldl_keeps (·.emboss) _ (fun _ _ => by split <;> simp) _ _
@[simp] theorem stationsAtJobClear_rolls (tag : Nat) (s : State) : (stationsAtJobClear tag s).rolls = s.rolls := by
  exact foldl_keeps (·.rolls) _ (fun _ _ => by split <;> simp) _ _
@[simp] theorem stationsAtJobClear_shade (tag : Nat) (s : State) : (stationsAtJobClear tag s).shade = s.shade := by
  exact foldl_keeps (·.shade) _ (fun _ _ => by split <;> simp) _ _
@[simp] theorem stationsAtJobClear_labels (tag : Nat) (s : State) : (stationsAtJobClear tag s).labels = s.labels := by
  exact foldl_keeps (·.labels) _ (fun _ _ => by split <;> simp) _ _
@[simp] theorem stationsAtJobClear_link (tag : Nat) (s : State) : (stationsAtJobClear tag s).link = s.link := by
  exact foldl_keeps (·.link) _ (fun _ _ => by split <;> simp) _ _
@[simp] theorem stationsAtJobClear_pins (tag : Nat) (s : State) : (stationsAtJobClear tag s).pins = s.pins := by
  exact foldl_keeps (·.pins) _ (fun _ _ => by split <;> simp) _ _
@[simp] theorem stationsAtJobClear_model (tag : Nat) (s : State) : (stationsAtJobClear tag s).model = s.model := by
  exact foldl_keeps (·.model) _ (fun _ _ => by split <;> simp) _ _
@[simp] theorem stationsAtJobClear_pending (tag : Nat) (s : State) : (stationsAtJobClear tag s).pending = s.pending := by
  exact foldl_keeps (·.pending) _ (fun _ _ => by split <;> simp) _ _

@[simp] theorem teachStation_pos (s : State) (st : Station) : (teachStation s st).pos = s.pos := by
  unfold teachStation; split <;> simp
@[simp] theorem teachStation_map (s : State) (st : Station) : (teachStation s st).map = s.map := by
  unfold teachStation; split <;> simp
@[simp] theorem teachStation_emboss (s : State) (st : Station) : (teachStation s st).emboss = s.emboss := by
  unfold teachStation; split <;> simp
@[simp] theorem teachStation_rolls (s : State) (st : Station) : (teachStation s st).rolls = s.rolls := by
  unfold teachStation; split <;> simp
@[simp] theorem teachStation_shade (s : State) (st : Station) : (teachStation s st).shade = s.shade := by
  unfold teachStation; split <;> simp
@[simp] theorem teachStation_labels (s : State) (st : Station) : (teachStation s st).labels = s.labels := by
  unfold teachStation; split <;> simp
@[simp] theorem teachStation_speed (s : State) (st : Station) : (teachStation s st).speed = s.speed := by
  unfold teachStation; split <;> simp
@[simp] theorem teachStation_link (s : State) (st : Station) : (teachStation s st).link = s.link := by
  unfold teachStation; split <;> simp
@[simp] theorem teachStation_pins (s : State) (st : Station) : (teachStation s st).pins = s.pins := by
  unfold teachStation; split <;> simp
@[simp] theorem teachStation_model (s : State) (st : Station) : (teachStation s st).model = s.model := by
  unfold teachStation; split <;> simp
@[simp] theorem teachStation_pending (s : State) (st : Station) : (teachStation s st).pending = s.pending := by
  unfold teachStation; split <;> simp

@[simp] theorem teachAll_pos (s : State) : (teachAll s).pos = s.pos := by
  exact foldl_keeps (·.pos) _ (fun _ _ => by simp) _ _
@[simp] theorem teachAll_map (s : State) : (teachAll s).map = s.map := by
  exact foldl_keeps (·.map) _ (fun _ _ => by simp) _ _
@[simp] theorem teachAll_emboss (s : State) : (teachAll s).emboss = s.emboss := by
  exact foldl_keeps (·.emboss) _ (fun _ _ => by simp) _ _
@[simp] theorem teachAll_rolls (s : State) : (teachAll s).rolls = s.rolls := by
  exact foldl_keeps (·.rolls) _ (fun _ _ => by simp) _ _
@[simp] theorem teachAll_shade (s : State) : (teachAll s).shade = s.shade := by
  exact foldl_keeps (·.shade) _ (fun _ _ => by simp) _ _
@[simp] theorem teachAll_labels (s : State) : (teachAll s).labels = s.labels := by
  exact foldl_keeps (·.labels) _ (fun _ _ => by simp) _ _
@[simp] theorem teachAll_speed (s : State) : (teachAll s).speed = s.speed := by
  exact foldl_keeps (·.speed) _ (fun _ _ => by simp) _ _
@[simp] theorem teachAll_link (s : State) : (teachAll s).link = s.link := by
  exact foldl_keeps (·.link) _ (fun _ _ => by simp) _ _
@[simp] theorem teachAll_pins (s : State) : (teachAll s).pins = s.pins := by
  exact foldl_keeps (·.pins) _ (fun _ _ => by simp) _ _
@[simp] theorem teachAll_model (s : State) : (teachAll s).model = s.model := by
  exact foldl_keeps (·.model) _ (fun _ _ => by simp) _ _
@[simp] theorem teachAll_pending (s : State) : (teachAll s).pending = s.pending := by
  exact foldl_keeps (·.pending) _ (fun _ _ => by simp) _ _

/-! ### Embossing -/

@[simp] theorem moveEmboss_pos (e : EmbossState) (n : Nat) (s : State) : (moveEmboss e n s).pos = s.pos := by
  unfold moveEmboss; split <;> simp
@[simp] theorem moveEmboss_map (e : EmbossState) (n : Nat) (s : State) : (moveEmboss e n s).map = s.map := by
  unfold moveEmboss; split <;> simp
@[simp] theorem moveEmboss_jobs (e : EmbossState) (n : Nat) (s : State) : (moveEmboss e n s).jobs = s.jobs := by
  unfold moveEmboss; split <;> simp
@[simp] theorem moveEmboss_register (e : EmbossState) (n : Nat) (s : State) : (moveEmboss e n s).register = s.register := by
  unfold moveEmboss; split <;> simp
@[simp] theorem moveEmboss_rolls (e : EmbossState) (n : Nat) (s : State) : (moveEmboss e n s).rolls = s.rolls := by
  unfold moveEmboss; split <;> simp
@[simp] theorem moveEmboss_shade (e : EmbossState) (n : Nat) (s : State) : (moveEmboss e n s).shade = s.shade := by
  unfold moveEmboss; split <;> simp
@[simp] theorem moveEmboss_labels (e : EmbossState) (n : Nat) (s : State) : (moveEmboss e n s).labels = s.labels := by
  unfold moveEmboss; split <;> simp
@[simp] theorem moveEmboss_speed (e : EmbossState) (n : Nat) (s : State) : (moveEmboss e n s).speed = s.speed := by
  unfold moveEmboss; split <;> simp
@[simp] theorem moveEmboss_pins (e : EmbossState) (n : Nat) (s : State) : (moveEmboss e n s).pins = s.pins := by
  unfold moveEmboss; split <;> simp
@[simp] theorem moveEmboss_pending (e : EmbossState) (n : Nat) (s : State) : (moveEmboss e n s).pending = s.pending := by
  unfold moveEmboss; split <;> simp

@[simp] theorem beginSettling_pos (s : State) : (beginSettling s).pos = s.pos := by
  unfold beginSettling; split <;> simp
@[simp] theorem beginSettling_map (s : State) : (beginSettling s).map = s.map := by
  unfold beginSettling; split <;> simp
@[simp] theorem beginSettling_jobs (s : State) : (beginSettling s).jobs = s.jobs := by
  unfold beginSettling; split <;> simp
@[simp] theorem beginSettling_register (s : State) : (beginSettling s).register = s.register := by
  unfold beginSettling; split <;> simp
@[simp] theorem beginSettling_rolls (s : State) : (beginSettling s).rolls = s.rolls := by
  unfold beginSettling; split <;> simp
@[simp] theorem beginSettling_shade (s : State) : (beginSettling s).shade = s.shade := by
  unfold beginSettling; split <;> simp
@[simp] theorem beginSettling_labels (s : State) : (beginSettling s).labels = s.labels := by
  unfold beginSettling; split <;> simp
@[simp] theorem beginSettling_speed (s : State) : (beginSettling s).speed = s.speed := by
  unfold beginSettling; split <;> simp
@[simp] theorem beginSettling_pins (s : State) : (beginSettling s).pins = s.pins := by
  unfold beginSettling; split <;> simp
@[simp] theorem beginSettling_pending (s : State) : (beginSettling s).pending = s.pending := by
  unfold beginSettling; split <;> simp

@[simp] theorem retestCauses_pos (s : State) : (retestCauses s).pos = s.pos := by
  unfold retestCauses; repeat' split
  all_goals simp
@[simp] theorem retestCauses_map (s : State) : (retestCauses s).map = s.map := by
  unfold retestCauses; repeat' split
  all_goals simp
@[simp] theorem retestCauses_jobs (s : State) : (retestCauses s).jobs = s.jobs := by
  unfold retestCauses; repeat' split
  all_goals simp
@[simp] theorem retestCauses_register (s : State) : (retestCauses s).register = s.register := by
  unfold retestCauses; repeat' split
  all_goals simp
@[simp] theorem retestCauses_rolls (s : State) : (retestCauses s).rolls = s.rolls := by
  unfold retestCauses; repeat' split
  all_goals simp
@[simp] theorem retestCauses_shade (s : State) : (retestCauses s).shade = s.shade := by
  unfold retestCauses; repeat' split
  all_goals simp
@[simp] theorem retestCauses_labels (s : State) : (retestCauses s).labels = s.labels := by
  unfold retestCauses; repeat' split
  all_goals simp
@[simp] theorem retestCauses_speed (s : State) : (retestCauses s).speed = s.speed := by
  unfold retestCauses; repeat' split
  all_goals simp
@[simp] theorem retestCauses_pins (s : State) : (retestCauses s).pins = s.pins := by
  unfold retestCauses; repeat' split
  all_goals simp
@[simp] theorem retestCauses_pending (s : State) : (retestCauses s).pending = s.pending := by
  unfold retestCauses; repeat' split
  all_goals simp

@[simp] theorem setHold_pos (v : Bool) (s : State) : (setHold v s).pos = s.pos := by
  simp [setHold]
@[simp] theorem setHold_map (v : Bool) (s : State) : (setHold v s).map = s.map := by
  simp [setHold]
@[simp] theorem setHold_jobs (v : Bool) (s : State) : (setHold v s).jobs = s.jobs := by
  simp [setHold]
@[simp] theorem setHold_register (v : Bool) (s : State) : (setHold v s).register = s.register := by
  simp [setHold]
@[simp] theorem setHold_rolls (v : Bool) (s : State) : (setHold v s).rolls = s.rolls := by
  simp [setHold]
@[simp] theorem setHold_shade (v : Bool) (s : State) : (setHold v s).shade = s.shade := by
  simp [setHold]
@[simp] theorem setHold_labels (v : Bool) (s : State) : (setHold v s).labels = s.labels := by
  simp [setHold]
@[simp] theorem setHold_speed (v : Bool) (s : State) : (setHold v s).speed = s.speed := by
  simp [setHold]
@[simp] theorem setHold_pins (v : Bool) (s : State) : (setHold v s).pins = s.pins := by
  simp [setHold]
@[simp] theorem setHold_pending (v : Bool) (s : State) : (setHold v s).pending = s.pending := by
  simp [setHold]

@[simp] theorem placeLift_pos (rec : Repeat) (s : State) : (placeLift rec s).pos = s.pos := by
  unfold placeLift; dsimp only; repeat' split
  all_goals simp
@[simp] theorem placeLift_map (rec : Repeat) (s : State) : (placeLift rec s).map = s.map := by
  unfold placeLift; dsimp only; repeat' split
  all_goals simp
@[simp] theorem placeLift_jobs (rec : Repeat) (s : State) : (placeLift rec s).jobs = s.jobs := by
  unfold placeLift; dsimp only; repeat' split
  all_goals simp
@[simp] theorem placeLift_register (rec : Repeat) (s : State) : (placeLift rec s).register = s.register := by
  unfold placeLift; dsimp only; repeat' split
  all_goals simp
@[simp] theorem placeLift_rolls (rec : Repeat) (s : State) : (placeLift rec s).rolls = s.rolls := by
  unfold placeLift; dsimp only; repeat' split
  all_goals simp
@[simp] theorem placeLift_shade (rec : Repeat) (s : State) : (placeLift rec s).shade = s.shade := by
  unfold placeLift; dsimp only; repeat' split
  all_goals simp
@[simp] theorem placeLift_labels (rec : Repeat) (s : State) : (placeLift rec s).labels = s.labels := by
  unfold placeLift; dsimp only; repeat' split
  all_goals simp
@[simp] theorem placeLift_speed (rec : Repeat) (s : State) : (placeLift rec s).speed = s.speed := by
  unfold placeLift; dsimp only; repeat' split
  all_goals simp
@[simp] theorem placeLift_pins (rec : Repeat) (s : State) : (placeLift rec s).pins = s.pins := by
  unfold placeLift; dsimp only; repeat' split
  all_goals simp
@[simp] theorem placeLift_pending (rec : Repeat) (s : State) : (placeLift rec s).pending = s.pending := by
  unfold placeLift; dsimp only; repeat' split
  all_goals simp

@[simp] theorem liftStart_pos (n : Nat) (s : State) : (liftStart n s).pos = s.pos := by
  simp [liftStart]
@[simp] theorem liftStart_map (n : Nat) (s : State) : (liftStart n s).map = s.map := by
  simp [liftStart]
@[simp] theorem liftStart_jobs (n : Nat) (s : State) : (liftStart n s).jobs = s.jobs := by
  simp [liftStart]
@[simp] theorem liftStart_register (n : Nat) (s : State) : (liftStart n s).register = s.register := by
  simp [liftStart]
@[simp] theorem liftStart_rolls (n : Nat) (s : State) : (liftStart n s).rolls = s.rolls := by
  simp [liftStart]
@[simp] theorem liftStart_shade (n : Nat) (s : State) : (liftStart n s).shade = s.shade := by
  simp [liftStart]
@[simp] theorem liftStart_labels (n : Nat) (s : State) : (liftStart n s).labels = s.labels := by
  simp [liftStart]
@[simp] theorem liftStart_speed (n : Nat) (s : State) : (liftStart n s).speed = s.speed := by
  simp [liftStart]
@[simp] theorem liftStart_pins (n : Nat) (s : State) : (liftStart n s).pins = s.pins := by
  simp [liftStart]
@[simp] theorem liftStart_pending (n : Nat) (s : State) : (liftStart n s).pending = s.pending := by
  simp [liftStart]

@[simp] theorem removeLifts_pos (p : SpliceLift → Bool) (s : State) : (removeLifts p s).pos = s.pos := by
  unfold removeLifts; split <;> simp
@[simp] theorem removeLifts_map (p : SpliceLift → Bool) (s : State) : (removeLifts p s).map = s.map := by
  unfold removeLifts; split <;> simp
@[simp] theorem removeLifts_jobs (p : SpliceLift → Bool) (s : State) : (removeLifts p s).jobs = s.jobs := by
  unfold removeLifts; split <;> simp
@[simp] theorem removeLifts_register (p : SpliceLift → Bool) (s : State) : (removeLifts p s).register = s.register := by
  unfold removeLifts; split <;> simp
@[simp] theorem removeLifts_rolls (p : SpliceLift → Bool) (s : State) : (removeLifts p s).rolls = s.rolls := by
  unfold removeLifts; split <;> simp
@[simp] theorem removeLifts_shade (p : SpliceLift → Bool) (s : State) : (removeLifts p s).shade = s.shade := by
  unfold removeLifts; split <;> simp
@[simp] theorem removeLifts_labels (p : SpliceLift → Bool) (s : State) : (removeLifts p s).labels = s.labels := by
  unfold removeLifts; split <;> simp
@[simp] theorem removeLifts_speed (p : SpliceLift → Bool) (s : State) : (removeLifts p s).speed = s.speed := by
  unfold removeLifts; split <;> simp
@[simp] theorem removeLifts_pins (p : SpliceLift → Bool) (s : State) : (removeLifts p s).pins = s.pins := by
  unfold removeLifts; split <;> simp
@[simp] theorem removeLifts_pending (p : SpliceLift → Bool) (s : State) : (removeLifts p s).pending = s.pending := by
  unfold removeLifts; split <;> simp

@[simp] theorem liftEnd_pos (n : Nat) (s : State) : (liftEnd n s).pos = s.pos := by
  simp [liftEnd]
@[simp] theorem liftEnd_map (n : Nat) (s : State) : (liftEnd n s).map = s.map := by
  simp [liftEnd]
@[simp] theorem liftEnd_jobs (n : Nat) (s : State) : (liftEnd n s).jobs = s.jobs := by
  simp [liftEnd]
@[simp] theorem liftEnd_register (n : Nat) (s : State) : (liftEnd n s).register = s.register := by
  simp [liftEnd]
@[simp] theorem liftEnd_rolls (n : Nat) (s : State) : (liftEnd n s).rolls = s.rolls := by
  simp [liftEnd]
@[simp] theorem liftEnd_shade (n : Nat) (s : State) : (liftEnd n s).shade = s.shade := by
  simp [liftEnd]
@[simp] theorem liftEnd_labels (n : Nat) (s : State) : (liftEnd n s).labels = s.labels := by
  simp [liftEnd]
@[simp] theorem liftEnd_speed (n : Nat) (s : State) : (liftEnd n s).speed = s.speed := by
  simp [liftEnd]
@[simp] theorem liftEnd_pins (n : Nat) (s : State) : (liftEnd n s).pins = s.pins := by
  simp [liftEnd]
@[simp] theorem liftEnd_pending (n : Nat) (s : State) : (liftEnd n s).pending = s.pending := by
  simp [liftEnd]

@[simp] theorem lowerSettle_pos (s : State) : (lowerSettle s).pos = s.pos := by
  unfold lowerSettle; split <;> simp
@[simp] theorem lowerSettle_map (s : State) : (lowerSettle s).map = s.map := by
  unfold lowerSettle; split <;> simp
@[simp] theorem lowerSettle_jobs (s : State) : (lowerSettle s).jobs = s.jobs := by
  unfold lowerSettle; split <;> simp
@[simp] theorem lowerSettle_register (s : State) : (lowerSettle s).register = s.register := by
  unfold lowerSettle; split <;> simp
@[simp] theorem lowerSettle_rolls (s : State) : (lowerSettle s).rolls = s.rolls := by
  unfold lowerSettle; split <;> simp
@[simp] theorem lowerSettle_shade (s : State) : (lowerSettle s).shade = s.shade := by
  unfold lowerSettle; split <;> simp
@[simp] theorem lowerSettle_labels (s : State) : (lowerSettle s).labels = s.labels := by
  unfold lowerSettle; split <;> simp
@[simp] theorem lowerSettle_speed (s : State) : (lowerSettle s).speed = s.speed := by
  unfold lowerSettle; split <;> simp
@[simp] theorem lowerSettle_pins (s : State) : (lowerSettle s).pins = s.pins := by
  unfold lowerSettle; split <;> simp
@[simp] theorem lowerSettle_pending (s : State) : (lowerSettle s).pending = s.pending := by
  unfold lowerSettle; split <;> simp

@[simp] theorem switchNipJob_pos (rec : Repeat) (s : State) : (switchNipJob rec s).pos = s.pos := by
  unfold switchNipJob; dsimp only; repeat' split
  all_goals simp
@[simp] theorem switchNipJob_map (rec : Repeat) (s : State) : (switchNipJob rec s).map = s.map := by
  unfold switchNipJob; dsimp only; repeat' split
  all_goals simp
@[simp] theorem switchNipJob_jobs (rec : Repeat) (s : State) : (switchNipJob rec s).jobs = s.jobs := by
  unfold switchNipJob; dsimp only; repeat' split
  all_goals simp
@[simp] theorem switchNipJob_register (rec : Repeat) (s : State) : (switchNipJob rec s).register = s.register := by
  unfold switchNipJob; dsimp only; repeat' split
  all_goals simp
@[simp] theorem switchNipJob_rolls (rec : Repeat) (s : State) : (switchNipJob rec s).rolls = s.rolls := by
  unfold switchNipJob; dsimp only; repeat' split
  all_goals simp
@[simp] theorem switchNipJob_shade (rec : Repeat) (s : State) : (switchNipJob rec s).shade = s.shade := by
  unfold switchNipJob; dsimp only; repeat' split
  all_goals simp
@[simp] theorem switchNipJob_labels (rec : Repeat) (s : State) : (switchNipJob rec s).labels = s.labels := by
  unfold switchNipJob; dsimp only; repeat' split
  all_goals simp
@[simp] theorem switchNipJob_speed (rec : Repeat) (s : State) : (switchNipJob rec s).speed = s.speed := by
  unfold switchNipJob; dsimp only; repeat' split
  all_goals simp
@[simp] theorem switchNipJob_pins (rec : Repeat) (s : State) : (switchNipJob rec s).pins = s.pins := by
  unfold switchNipJob; dsimp only; repeat' split
  all_goals simp
@[simp] theorem switchNipJob_pending (rec : Repeat) (s : State) : (switchNipJob rec s).pending = s.pending := by
  unfold switchNipJob; dsimp only; repeat' split
  all_goals simp

@[simp] theorem settleStep_pos (s : State) : (settleStep s).pos = s.pos := by
  unfold settleStep; split <;> simp
@[simp] theorem settleStep_map (s : State) : (settleStep s).map = s.map := by
  unfold settleStep; split <;> simp
@[simp] theorem settleStep_jobs (s : State) : (settleStep s).jobs = s.jobs := by
  unfold settleStep; split <;> simp
@[simp] theorem settleStep_register (s : State) : (settleStep s).register = s.register := by
  unfold settleStep; split <;> simp
@[simp] theorem settleStep_rolls (s : State) : (settleStep s).rolls = s.rolls := by
  unfold settleStep; split <;> simp
@[simp] theorem settleStep_shade (s : State) : (settleStep s).shade = s.shade := by
  unfold settleStep; split <;> simp
@[simp] theorem settleStep_labels (s : State) : (settleStep s).labels = s.labels := by
  unfold settleStep; split <;> simp
@[simp] theorem settleStep_speed (s : State) : (settleStep s).speed = s.speed := by
  unfold settleStep; split <;> simp
@[simp] theorem settleStep_pins (s : State) : (settleStep s).pins = s.pins := by
  unfold settleStep; split <;> simp
@[simp] theorem settleStep_pending (s : State) : (settleStep s).pending = s.pending := by
  unfold settleStep; split <;> simp

@[simp] theorem writeEmboss_pos (rec : Repeat) (s : State) : (writeEmboss rec s).pos = s.pos := by
  unfold writeEmboss; dsimp only; split <;> simp
@[simp] theorem writeEmboss_jobs (rec : Repeat) (s : State) : (writeEmboss rec s).jobs = s.jobs := by
  unfold writeEmboss; dsimp only; split <;> simp
@[simp] theorem writeEmboss_register (rec : Repeat) (s : State) : (writeEmboss rec s).register = s.register := by
  unfold writeEmboss; dsimp only; split <;> simp
@[simp] theorem writeEmboss_rolls (rec : Repeat) (s : State) : (writeEmboss rec s).rolls = s.rolls := by
  unfold writeEmboss; dsimp only; split <;> simp
@[simp] theorem writeEmboss_shade (rec : Repeat) (s : State) : (writeEmboss rec s).shade = s.shade := by
  unfold writeEmboss; dsimp only; split <;> simp
@[simp] theorem writeEmboss_labels (rec : Repeat) (s : State) : (writeEmboss rec s).labels = s.labels := by
  unfold writeEmboss; dsimp only; split <;> simp
@[simp] theorem writeEmboss_speed (rec : Repeat) (s : State) : (writeEmboss rec s).speed = s.speed := by
  unfold writeEmboss; dsimp only; split <;> simp
@[simp] theorem writeEmboss_pins (rec : Repeat) (s : State) : (writeEmboss rec s).pins = s.pins := by
  unfold writeEmboss; dsimp only; split <;> simp
@[simp] theorem writeEmboss_pending (rec : Repeat) (s : State) : (writeEmboss rec s).pending = s.pending := by
  unfold writeEmboss; dsimp only; split <;> simp

@[simp] theorem passNip_pos (rec : Repeat) (s : State) : (passNip rec s).pos = s.pos := by
  simp [passNip]
@[simp] theorem passNip_jobs (rec : Repeat) (s : State) : (passNip rec s).jobs = s.jobs := by
  simp [passNip]
@[simp] theorem passNip_rolls (rec : Repeat) (s : State) : (passNip rec s).rolls = s.rolls := by
  simp [passNip]
@[simp] theorem passNip_shade (rec : Repeat) (s : State) : (passNip rec s).shade = s.shade := by
  simp [passNip]
@[simp] theorem passNip_labels (rec : Repeat) (s : State) : (passNip rec s).labels = s.labels := by
  simp [passNip]
@[simp] theorem passNip_pins (rec : Repeat) (s : State) : (passNip rec s).pins = s.pins := by
  simp [passNip]
@[simp] theorem passNip_pending (rec : Repeat) (s : State) : (passNip rec s).pending = s.pending := by
  simp [passNip]

@[simp] theorem arriveAtNip_pos (rec : Repeat) (s : State) : (arriveAtNip rec s).pos = s.pos := by
  unfold arriveAtNip; split <;> simp
@[simp] theorem arriveAtNip_map (rec : Repeat) (s : State) : (arriveAtNip rec s).map = s.map := by
  unfold arriveAtNip; split <;> simp
@[simp] theorem arriveAtNip_jobs (rec : Repeat) (s : State) : (arriveAtNip rec s).jobs = s.jobs := by
  unfold arriveAtNip; split <;> simp
@[simp] theorem arriveAtNip_register (rec : Repeat) (s : State) : (arriveAtNip rec s).register = s.register := by
  unfold arriveAtNip; split <;> simp
@[simp] theorem arriveAtNip_rolls (rec : Repeat) (s : State) : (arriveAtNip rec s).rolls = s.rolls := by
  unfold arriveAtNip; split <;> simp
@[simp] theorem arriveAtNip_shade (rec : Repeat) (s : State) : (arriveAtNip rec s).shade = s.shade := by
  unfold arriveAtNip; split <;> simp
@[simp] theorem arriveAtNip_labels (rec : Repeat) (s : State) : (arriveAtNip rec s).labels = s.labels := by
  unfold arriveAtNip; split <;> simp
@[simp] theorem arriveAtNip_speed (rec : Repeat) (s : State) : (arriveAtNip rec s).speed = s.speed := by
  unfold arriveAtNip; split <;> simp
@[simp] theorem arriveAtNip_pins (rec : Repeat) (s : State) : (arriveAtNip rec s).pins = s.pins := by
  unfold arriveAtNip; split <;> simp
@[simp] theorem arriveAtNip_pending (rec : Repeat) (s : State) : (arriveAtNip rec s).pending = s.pending := by
  unfold arriveAtNip; split <;> simp

@[simp] theorem settleNip_pos (n : Nat) (s : State) : (settleNip n s).pos = s.pos := by
  induction n generalizing s with
  | zero => simp [settleNip]
  | succ n ih =>
    unfold settleNip; (try dsimp only); repeat' split
    all_goals simp [ih]
@[simp] theorem settleNip_jobs (n : Nat) (s : State) : (settleNip n s).jobs = s.jobs := by
  induction n generalizing s with
  | zero => simp [settleNip]
  | succ n ih =>
    unfold settleNip; (try dsimp only); repeat' split
    all_goals simp [ih]
@[simp] theorem settleNip_rolls (n : Nat) (s : State) : (settleNip n s).rolls = s.rolls := by
  induction n generalizing s with
  | zero => simp [settleNip]
  | succ n ih =>
    unfold settleNip; (try dsimp only); repeat' split
    all_goals simp [ih]
@[simp] theorem settleNip_shade (n : Nat) (s : State) : (settleNip n s).shade = s.shade := by
  induction n generalizing s with
  | zero => simp [settleNip]
  | succ n ih =>
    unfold settleNip; (try dsimp only); repeat' split
    all_goals simp [ih]
@[simp] theorem settleNip_labels (n : Nat) (s : State) : (settleNip n s).labels = s.labels := by
  induction n generalizing s with
  | zero => simp [settleNip]
  | succ n ih =>
    unfold settleNip; (try dsimp only); repeat' split
    all_goals simp [ih]
@[simp] theorem settleNip_pins (n : Nat) (s : State) : (settleNip n s).pins = s.pins := by
  induction n generalizing s with
  | zero => simp [settleNip]
  | succ n ih =>
    unfold settleNip; (try dsimp only); repeat' split
    all_goals simp [ih]
@[simp] theorem settleNip_pending (n : Nat) (s : State) : (settleNip n s).pending = s.pending := by
  induction n generalizing s with
  | zero => simp [settleNip]
  | succ n ih =>
    unfold settleNip; (try dsimp only); repeat' split
    all_goals simp [ih]

@[simp] theorem restNip_pos (s : State) : (restNip s).pos = s.pos := by
  simp [restNip]
@[simp] theorem restNip_jobs (s : State) : (restNip s).jobs = s.jobs := by
  simp [restNip]
@[simp] theorem restNip_rolls (s : State) : (restNip s).rolls = s.rolls := by
  simp [restNip]
@[simp] theorem restNip_shade (s : State) : (restNip s).shade = s.shade := by
  simp [restNip]
@[simp] theorem restNip_labels (s : State) : (restNip s).labels = s.labels := by
  simp [restNip]
@[simp] theorem restNip_pins (s : State) : (restNip s).pins = s.pins := by
  simp [restNip]
@[simp] theorem restNip_pending (s : State) : (restNip s).pending = s.pending := by
  simp [restNip]

@[simp] theorem nipCrossing_pos (s : State) : (nipCrossing s).pos = s.pos := by
  unfold nipCrossing; split <;> simp
@[simp] theorem nipCrossing_jobs (s : State) : (nipCrossing s).jobs = s.jobs := by
  unfold nipCrossing; split <;> simp
@[simp] theorem nipCrossing_rolls (s : State) : (nipCrossing s).rolls = s.rolls := by
  unfold nipCrossing; split <;> simp
@[simp] theorem nipCrossing_shade (s : State) : (nipCrossing s).shade = s.shade := by
  unfold nipCrossing; split <;> simp
@[simp] theorem nipCrossing_labels (s : State) : (nipCrossing s).labels = s.labels := by
  unfold nipCrossing; split <;> simp
@[simp] theorem nipCrossing_pins (s : State) : (nipCrossing s).pins = s.pins := by
  unfold nipCrossing; split <;> simp
@[simp] theorem nipCrossing_pending (s : State) : (nipCrossing s).pending = s.pending := by
  unfold nipCrossing; split <;> simp

/-! ### Shade -/

@[simp] theorem designate_pos (n : Nat) (s : State) : (designate n s).pos = s.pos := by
  unfold designate; dsimp only; repeat' split
  all_goals simp
@[simp] theorem designate_jobs (n : Nat) (s : State) : (designate n s).jobs = s.jobs := by
  unfold designate; dsimp only; repeat' split
  all_goals simp
@[simp] theorem designate_register (n : Nat) (s : State) : (designate n s).register = s.register := by
  unfold designate; dsimp only; repeat' split
  all_goals simp
@[simp] theorem designate_emboss (n : Nat) (s : State) : (designate n s).emboss = s.emboss := by
  unfold designate; dsimp only; repeat' split
  all_goals simp
@[simp] theorem designate_rolls (n : Nat) (s : State) : (designate n s).rolls = s.rolls := by
  unfold designate; dsimp only; repeat' split
  all_goals simp
@[simp] theorem designate_labels (n : Nat) (s : State) : (designate n s).labels = s.labels := by
  unfold designate; dsimp only; repeat' split
  all_goals simp
@[simp] theorem designate_speed (n : Nat) (s : State) : (designate n s).speed = s.speed := by
  unfold designate; dsimp only; repeat' split
  all_goals simp
@[simp] theorem designate_link (n : Nat) (s : State) : (designate n s).link = s.link := by
  unfold designate; dsimp only; repeat' split
  all_goals simp
@[simp] theorem designate_pins (n : Nat) (s : State) : (designate n s).pins = s.pins := by
  unfold designate; dsimp only; repeat' split
  all_goals simp
@[simp] theorem designate_model (n : Nat) (s : State) : (designate n s).model = s.model := by
  unfold designate; dsimp only; repeat' split
  all_goals simp
@[simp] theorem designate_pending (n : Nat) (s : State) : (designate n s).pending = s.pending := by
  unfold designate; dsimp only; repeat' split
  all_goals simp

@[simp] theorem storeSample_pos (n : Nat) (l : Lane) (v : Sample) (s : State) : (storeSample n l v s).pos = s.pos := by
  rfl
@[simp] theorem storeSample_jobs (n : Nat) (l : Lane) (v : Sample) (s : State) : (storeSample n l v s).jobs = s.jobs := by
  rfl
@[simp] theorem storeSample_register (n : Nat) (l : Lane) (v : Sample) (s : State) : (storeSample n l v s).register = s.register := by
  rfl
@[simp] theorem storeSample_emboss (n : Nat) (l : Lane) (v : Sample) (s : State) : (storeSample n l v s).emboss = s.emboss := by
  rfl
@[simp] theorem storeSample_rolls (n : Nat) (l : Lane) (v : Sample) (s : State) : (storeSample n l v s).rolls = s.rolls := by
  rfl
@[simp] theorem storeSample_shade (n : Nat) (l : Lane) (v : Sample) (s : State) : (storeSample n l v s).shade = s.shade := by
  rfl
@[simp] theorem storeSample_labels (n : Nat) (l : Lane) (v : Sample) (s : State) : (storeSample n l v s).labels = s.labels := by
  rfl
@[simp] theorem storeSample_speed (n : Nat) (l : Lane) (v : Sample) (s : State) : (storeSample n l v s).speed = s.speed := by
  rfl
@[simp] theorem storeSample_link (n : Nat) (l : Lane) (v : Sample) (s : State) : (storeSample n l v s).link = s.link := by
  rfl
@[simp] theorem storeSample_pins (n : Nat) (l : Lane) (v : Sample) (s : State) : (storeSample n l v s).pins = s.pins := by
  rfl
@[simp] theorem storeSample_model (n : Nat) (l : Lane) (v : Sample) (s : State) : (storeSample n l v s).model = s.model := by
  rfl
@[simp] theorem storeSample_pending (n : Nat) (l : Lane) (v : Sample) (s : State) : (storeSample n l v s).pending = s.pending := by
  rfl

@[simp] theorem storeDefects_pos (n : Nat) (l : Lane) (c : Nat) (s : State) : (storeDefects n l c s).pos = s.pos := by
  rfl
@[simp] theorem storeDefects_jobs (n : Nat) (l : Lane) (c : Nat) (s : State) : (storeDefects n l c s).jobs = s.jobs := by
  rfl
@[simp] theorem storeDefects_register (n : Nat) (l : Lane) (c : Nat) (s : State) : (storeDefects n l c s).register = s.register := by
  rfl
@[simp] theorem storeDefects_emboss (n : Nat) (l : Lane) (c : Nat) (s : State) : (storeDefects n l c s).emboss = s.emboss := by
  rfl
@[simp] theorem storeDefects_rolls (n : Nat) (l : Lane) (c : Nat) (s : State) : (storeDefects n l c s).rolls = s.rolls := by
  rfl
@[simp] theorem storeDefects_shade (n : Nat) (l : Lane) (c : Nat) (s : State) : (storeDefects n l c s).shade = s.shade := by
  rfl
@[simp] theorem storeDefects_labels (n : Nat) (l : Lane) (c : Nat) (s : State) : (storeDefects n l c s).labels = s.labels := by
  rfl
@[simp] theorem storeDefects_speed (n : Nat) (l : Lane) (c : Nat) (s : State) : (storeDefects n l c s).speed = s.speed := by
  rfl
@[simp] theorem storeDefects_link (n : Nat) (l : Lane) (c : Nat) (s : State) : (storeDefects n l c s).link = s.link := by
  rfl
@[simp] theorem storeDefects_pins (n : Nat) (l : Lane) (c : Nat) (s : State) : (storeDefects n l c s).pins = s.pins := by
  rfl
@[simp] theorem storeDefects_model (n : Nat) (l : Lane) (c : Nat) (s : State) : (storeDefects n l c s).model = s.model := by
  rfl
@[simp] theorem storeDefects_pending (n : Nat) (l : Lane) (c : Nat) (s : State) : (storeDefects n l c s).pending = s.pending := by
  rfl

@[simp] theorem openBatch_pos (v : Shade) (j : JobRecord) (n : Nat) (s : State) : ((openBatch v j n s).2).pos = s.pos := by
  rfl
@[simp] theorem openBatch_map (v : Shade) (j : JobRecord) (n : Nat) (s : State) : ((openBatch v j n s).2).map = s.map := by
  rfl
@[simp] theorem openBatch_jobs (v : Shade) (j : JobRecord) (n : Nat) (s : State) : ((openBatch v j n s).2).jobs = s.jobs := by
  rfl
@[simp] theorem openBatch_register (v : Shade) (j : JobRecord) (n : Nat) (s : State) : ((openBatch v j n s).2).register = s.register := by
  rfl
@[simp] theorem openBatch_emboss (v : Shade) (j : JobRecord) (n : Nat) (s : State) : ((openBatch v j n s).2).emboss = s.emboss := by
  rfl
@[simp] theorem openBatch_rolls (v : Shade) (j : JobRecord) (n : Nat) (s : State) : ((openBatch v j n s).2).rolls = s.rolls := by
  rfl
@[simp] theorem openBatch_labels (v : Shade) (j : JobRecord) (n : Nat) (s : State) : ((openBatch v j n s).2).labels = s.labels := by
  rfl
@[simp] theorem openBatch_speed (v : Shade) (j : JobRecord) (n : Nat) (s : State) : ((openBatch v j n s).2).speed = s.speed := by
  rfl
@[simp] theorem openBatch_pins (v : Shade) (j : JobRecord) (n : Nat) (s : State) : ((openBatch v j n s).2).pins = s.pins := by
  rfl
@[simp] theorem openBatch_model (v : Shade) (j : JobRecord) (n : Nat) (s : State) : ((openBatch v j n s).2).model = s.model := by
  rfl
@[simp] theorem openBatch_pending (v : Shade) (j : JobRecord) (n : Nat) (s : State) : ((openBatch v j n s).2).pending = s.pending := by
  rfl

@[simp] theorem joinBatch_pos (b : BatchEntry) (e : HistoryEntry) (j : JobRecord) (s : State) : ((joinBatch b e j s).2).pos = s.pos := by
  rfl
@[simp] theorem joinBatch_map (b : BatchEntry) (e : HistoryEntry) (j : JobRecord) (s : State) : ((joinBatch b e j s).2).map = s.map := by
  rfl
@[simp] theorem joinBatch_jobs (b : BatchEntry) (e : HistoryEntry) (j : JobRecord) (s : State) : ((joinBatch b e j s).2).jobs = s.jobs := by
  rfl
@[simp] theorem joinBatch_register (b : BatchEntry) (e : HistoryEntry) (j : JobRecord) (s : State) : ((joinBatch b e j s).2).register = s.register := by
  rfl
@[simp] theorem joinBatch_emboss (b : BatchEntry) (e : HistoryEntry) (j : JobRecord) (s : State) : ((joinBatch b e j s).2).emboss = s.emboss := by
  rfl
@[simp] theorem joinBatch_rolls (b : BatchEntry) (e : HistoryEntry) (j : JobRecord) (s : State) : ((joinBatch b e j s).2).rolls = s.rolls := by
  rfl
@[simp] theorem joinBatch_labels (b : BatchEntry) (e : HistoryEntry) (j : JobRecord) (s : State) : ((joinBatch b e j s).2).labels = s.labels := by
  rfl
@[simp] theorem joinBatch_speed (b : BatchEntry) (e : HistoryEntry) (j : JobRecord) (s : State) : ((joinBatch b e j s).2).speed = s.speed := by
  rfl
@[simp] theorem joinBatch_link (b : BatchEntry) (e : HistoryEntry) (j : JobRecord) (s : State) : ((joinBatch b e j s).2).link = s.link := by
  rfl
@[simp] theorem joinBatch_pins (b : BatchEntry) (e : HistoryEntry) (j : JobRecord) (s : State) : ((joinBatch b e j s).2).pins = s.pins := by
  rfl
@[simp] theorem joinBatch_model (b : BatchEntry) (e : HistoryEntry) (j : JobRecord) (s : State) : ((joinBatch b e j s).2).model = s.model := by
  rfl
@[simp] theorem joinBatch_pending (b : BatchEntry) (e : HistoryEntry) (j : JobRecord) (s : State) : ((joinBatch b e j s).2).pending = s.pending := by
  rfl

@[simp] theorem matchBatch_pos (v : Shade) (e : HistoryEntry) (j : JobRecord) (s : State) : ((matchBatch v e j s).2).pos = s.pos := by
  unfold matchBatch; dsimp only; repeat' split
  all_goals simp
@[simp] theorem matchBatch_map (v : Shade) (e : HistoryEntry) (j : JobRecord) (s : State) : ((matchBatch v e j s).2).map = s.map := by
  unfold matchBatch; dsimp only; repeat' split
  all_goals simp
@[simp] theorem matchBatch_jobs (v : Shade) (e : HistoryEntry) (j : JobRecord) (s : State) : ((matchBatch v e j s).2).jobs = s.jobs := by
  unfold matchBatch; dsimp only; repeat' split
  all_goals simp
@[simp] theorem matchBatch_register (v : Shade) (e : HistoryEntry) (j : JobRecord) (s : State) : ((matchBatch v e j s).2).register = s.register := by
  unfold matchBatch; dsimp only; repeat' split
  all_goals simp
@[simp] theorem matchBatch_emboss (v : Shade) (e : HistoryEntry) (j : JobRecord) (s : State) : ((matchBatch v e j s).2).emboss = s.emboss := by
  unfold matchBatch; dsimp only; repeat' split
  all_goals simp
@[simp] theorem matchBatch_rolls (v : Shade) (e : HistoryEntry) (j : JobRecord) (s : State) : ((matchBatch v e j s).2).rolls = s.rolls := by
  unfold matchBatch; dsimp only; repeat' split
  all_goals simp
@[simp] theorem matchBatch_labels (v : Shade) (e : HistoryEntry) (j : JobRecord) (s : State) : ((matchBatch v e j s).2).labels = s.labels := by
  unfold matchBatch; dsimp only; repeat' split
  all_goals simp
@[simp] theorem matchBatch_speed (v : Shade) (e : HistoryEntry) (j : JobRecord) (s : State) : ((matchBatch v e j s).2).speed = s.speed := by
  unfold matchBatch; dsimp only; repeat' split
  all_goals simp
@[simp] theorem matchBatch_pins (v : Shade) (e : HistoryEntry) (j : JobRecord) (s : State) : ((matchBatch v e j s).2).pins = s.pins := by
  unfold matchBatch; dsimp only; repeat' split
  all_goals simp
@[simp] theorem matchBatch_model (v : Shade) (e : HistoryEntry) (j : JobRecord) (s : State) : ((matchBatch v e j s).2).model = s.model := by
  unfold matchBatch; dsimp only; repeat' split
  all_goals simp
@[simp] theorem matchBatch_pending (v : Shade) (e : HistoryEntry) (j : JobRecord) (s : State) : ((matchBatch v e j s).2).pending = s.pending := by
  unfold matchBatch; dsimp only; repeat' split
  all_goals simp

@[simp] theorem gradeRoll_pos (e : HistoryEntry) (s : State) : ((gradeRoll e s).2).pos = s.pos := by
  unfold gradeRoll; dsimp only; repeat' split
  all_goals simp
@[simp] theorem gradeRoll_map (e : HistoryEntry) (s : State) : ((gradeRoll e s).2).map = s.map := by
  unfold gradeRoll; dsimp only; repeat' split
  all_goals simp
@[simp] theorem gradeRoll_jobs (e : HistoryEntry) (s : State) : ((gradeRoll e s).2).jobs = s.jobs := by
  unfold gradeRoll; dsimp only; repeat' split
  all_goals simp
@[simp] theorem gradeRoll_register (e : HistoryEntry) (s : State) : ((gradeRoll e s).2).register = s.register := by
  unfold gradeRoll; dsimp only; repeat' split
  all_goals simp
@[simp] theorem gradeRoll_emboss (e : HistoryEntry) (s : State) : ((gradeRoll e s).2).emboss = s.emboss := by
  unfold gradeRoll; dsimp only; repeat' split
  all_goals simp
@[simp] theorem gradeRoll_rolls (e : HistoryEntry) (s : State) : ((gradeRoll e s).2).rolls = s.rolls := by
  unfold gradeRoll; dsimp only; repeat' split
  all_goals simp
@[simp] theorem gradeRoll_labels (e : HistoryEntry) (s : State) : ((gradeRoll e s).2).labels = s.labels := by
  unfold gradeRoll; dsimp only; repeat' split
  all_goals simp
@[simp] theorem gradeRoll_speed (e : HistoryEntry) (s : State) : ((gradeRoll e s).2).speed = s.speed := by
  unfold gradeRoll; dsimp only; repeat' split
  all_goals simp
@[simp] theorem gradeRoll_pins (e : HistoryEntry) (s : State) : ((gradeRoll e s).2).pins = s.pins := by
  unfold gradeRoll; dsimp only; repeat' split
  all_goals simp
@[simp] theorem gradeRoll_model (e : HistoryEntry) (s : State) : ((gradeRoll e s).2).model = s.model := by
  unfold gradeRoll; dsimp only; repeat' split
  all_goals simp
@[simp] theorem gradeRoll_pending (e : HistoryEntry) (s : State) : ((gradeRoll e s).2).pending = s.pending := by
  unfold gradeRoll; dsimp only; repeat' split
  all_goals simp

@[simp] theorem closeBatch_pos (n : Nat) (s : State) : (closeBatch n s).pos = s.pos := by
  rfl
@[simp] theorem closeBatch_map (n : Nat) (s : State) : (closeBatch n s).map = s.map := by
  rfl
@[simp] theorem closeBatch_jobs (n : Nat) (s : State) : (closeBatch n s).jobs = s.jobs := by
  rfl
@[simp] theorem closeBatch_register (n : Nat) (s : State) : (closeBatch n s).register = s.register := by
  rfl
@[simp] theorem closeBatch_emboss (n : Nat) (s : State) : (closeBatch n s).emboss = s.emboss := by
  rfl
@[simp] theorem closeBatch_rolls (n : Nat) (s : State) : (closeBatch n s).rolls = s.rolls := by
  rfl
@[simp] theorem closeBatch_labels (n : Nat) (s : State) : (closeBatch n s).labels = s.labels := by
  rfl
@[simp] theorem closeBatch_speed (n : Nat) (s : State) : (closeBatch n s).speed = s.speed := by
  rfl
@[simp] theorem closeBatch_link (n : Nat) (s : State) : (closeBatch n s).link = s.link := by
  rfl
@[simp] theorem closeBatch_pins (n : Nat) (s : State) : (closeBatch n s).pins = s.pins := by
  rfl
@[simp] theorem closeBatch_model (n : Nat) (s : State) : (closeBatch n s).model = s.model := by
  rfl
@[simp] theorem closeBatch_pending (n : Nat) (s : State) : (closeBatch n s).pending = s.pending := by
  rfl

@[simp] theorem retireBatch_pos (n : Nat) (s : State) : (retireBatch n s).pos = s.pos := by
  rfl
@[simp] theorem retireBatch_map (n : Nat) (s : State) : (retireBatch n s).map = s.map := by
  rfl
@[simp] theorem retireBatch_jobs (n : Nat) (s : State) : (retireBatch n s).jobs = s.jobs := by
  rfl
@[simp] theorem retireBatch_register (n : Nat) (s : State) : (retireBatch n s).register = s.register := by
  rfl
@[simp] theorem retireBatch_emboss (n : Nat) (s : State) : (retireBatch n s).emboss = s.emboss := by
  rfl
@[simp] theorem retireBatch_rolls (n : Nat) (s : State) : (retireBatch n s).rolls = s.rolls := by
  rfl
@[simp] theorem retireBatch_labels (n : Nat) (s : State) : (retireBatch n s).labels = s.labels := by
  rfl
@[simp] theorem retireBatch_speed (n : Nat) (s : State) : (retireBatch n s).speed = s.speed := by
  rfl
@[simp] theorem retireBatch_link (n : Nat) (s : State) : (retireBatch n s).link = s.link := by
  rfl
@[simp] theorem retireBatch_pins (n : Nat) (s : State) : (retireBatch n s).pins = s.pins := by
  rfl
@[simp] theorem retireBatch_model (n : Nat) (s : State) : (retireBatch n s).model = s.model := by
  rfl
@[simp] theorem retireBatch_pending (n : Nat) (s : State) : (retireBatch n s).pending = s.pending := by
  rfl

@[simp] theorem batchesAtJobClear_pos (n : Nat) (s : State) : (batchesAtJobClear n s).pos = s.pos := by
  rfl
@[simp] theorem batchesAtJobClear_map (n : Nat) (s : State) : (batchesAtJobClear n s).map = s.map := by
  rfl
@[simp] theorem batchesAtJobClear_jobs (n : Nat) (s : State) : (batchesAtJobClear n s).jobs = s.jobs := by
  rfl
@[simp] theorem batchesAtJobClear_register (n : Nat) (s : State) : (batchesAtJobClear n s).register = s.register := by
  rfl
@[simp] theorem batchesAtJobClear_emboss (n : Nat) (s : State) : (batchesAtJobClear n s).emboss = s.emboss := by
  rfl
@[simp] theorem batchesAtJobClear_rolls (n : Nat) (s : State) : (batchesAtJobClear n s).rolls = s.rolls := by
  rfl
@[simp] theorem batchesAtJobClear_labels (n : Nat) (s : State) : (batchesAtJobClear n s).labels = s.labels := by
  rfl
@[simp] theorem batchesAtJobClear_speed (n : Nat) (s : State) : (batchesAtJobClear n s).speed = s.speed := by
  rfl
@[simp] theorem batchesAtJobClear_link (n : Nat) (s : State) : (batchesAtJobClear n s).link = s.link := by
  rfl
@[simp] theorem batchesAtJobClear_pins (n : Nat) (s : State) : (batchesAtJobClear n s).pins = s.pins := by
  rfl
@[simp] theorem batchesAtJobClear_model (n : Nat) (s : State) : (batchesAtJobClear n s).model = s.model := by
  rfl
@[simp] theorem batchesAtJobClear_pending (n : Nat) (s : State) : (batchesAtJobClear n s).pending = s.pending := by
  rfl

@[simp] theorem withdrawFromBatch_pos (e : HistoryEntry) (s : State) : (withdrawFromBatch e s).pos = s.pos := by
  unfold withdrawFromBatch; split <;> simp
@[simp] theorem withdrawFromBatch_map (e : HistoryEntry) (s : State) : (withdrawFromBatch e s).map = s.map := by
  unfold withdrawFromBatch; split <;> simp
@[simp] theorem withdrawFromBatch_jobs (e : HistoryEntry) (s : State) : (withdrawFromBatch e s).jobs = s.jobs := by
  unfold withdrawFromBatch; split <;> simp
@[simp] theorem withdrawFromBatch_register (e : HistoryEntry) (s : State) : (withdrawFromBatch e s).register = s.register := by
  unfold withdrawFromBatch; split <;> simp
@[simp] theorem withdrawFromBatch_emboss (e : HistoryEntry) (s : State) : (withdrawFromBatch e s).emboss = s.emboss := by
  unfold withdrawFromBatch; split <;> simp
@[simp] theorem withdrawFromBatch_rolls (e : HistoryEntry) (s : State) : (withdrawFromBatch e s).rolls = s.rolls := by
  unfold withdrawFromBatch; split <;> simp
@[simp] theorem withdrawFromBatch_labels (e : HistoryEntry) (s : State) : (withdrawFromBatch e s).labels = s.labels := by
  unfold withdrawFromBatch; split <;> simp
@[simp] theorem withdrawFromBatch_speed (e : HistoryEntry) (s : State) : (withdrawFromBatch e s).speed = s.speed := by
  unfold withdrawFromBatch; split <;> simp
@[simp] theorem withdrawFromBatch_link (e : HistoryEntry) (s : State) : (withdrawFromBatch e s).link = s.link := by
  unfold withdrawFromBatch; split <;> simp
@[simp] theorem withdrawFromBatch_pins (e : HistoryEntry) (s : State) : (withdrawFromBatch e s).pins = s.pins := by
  unfold withdrawFromBatch; split <;> simp
@[simp] theorem withdrawFromBatch_model (e : HistoryEntry) (s : State) : (withdrawFromBatch e s).model = s.model := by
  unfold withdrawFromBatch; split <;> simp
@[simp] theorem withdrawFromBatch_pending (e : HistoryEntry) (s : State) : (withdrawFromBatch e s).pending = s.pending := by
  unfold withdrawFromBatch; split <;> simp

/-! ### Labels -/

@[simp] theorem setLabelState_pos (n : Nat) (v : LabelState) (s : State) : (setLabelState n v s).pos = s.pos := by
  rfl
@[simp] theorem setLabelState_map (n : Nat) (v : LabelState) (s : State) : (setLabelState n v s).map = s.map := by
  rfl
@[simp] theorem setLabelState_jobs (n : Nat) (v : LabelState) (s : State) : (setLabelState n v s).jobs = s.jobs := by
  rfl
@[simp] theorem setLabelState_register (n : Nat) (v : LabelState) (s : State) : (setLabelState n v s).register = s.register := by
  rfl
@[simp] theorem setLabelState_emboss (n : Nat) (v : LabelState) (s : State) : (setLabelState n v s).emboss = s.emboss := by
  rfl
@[simp] theorem setLabelState_shade (n : Nat) (v : LabelState) (s : State) : (setLabelState n v s).shade = s.shade := by
  rfl
@[simp] theorem setLabelState_labels (n : Nat) (v : LabelState) (s : State) : (setLabelState n v s).labels = s.labels := by
  rfl
@[simp] theorem setLabelState_speed (n : Nat) (v : LabelState) (s : State) : (setLabelState n v s).speed = s.speed := by
  rfl
@[simp] theorem setLabelState_link (n : Nat) (v : LabelState) (s : State) : (setLabelState n v s).link = s.link := by
  rfl
@[simp] theorem setLabelState_pins (n : Nat) (v : LabelState) (s : State) : (setLabelState n v s).pins = s.pins := by
  rfl
@[simp] theorem setLabelState_model (n : Nat) (v : LabelState) (s : State) : (setLabelState n v s).model = s.model := by
  rfl
@[simp] theorem setLabelState_pending (n : Nat) (v : LabelState) (s : State) : (setLabelState n v s).pending = s.pending := by
  rfl

@[simp] theorem claimAfterClose_pos (s : State) : (claimAfterClose s).pos = s.pos := by
  unfold claimAfterClose; split <;> simp
@[simp] theorem claimAfterClose_map (s : State) : (claimAfterClose s).map = s.map := by
  unfold claimAfterClose; split <;> simp
@[simp] theorem claimAfterClose_jobs (s : State) : (claimAfterClose s).jobs = s.jobs := by
  unfold claimAfterClose; split <;> simp
@[simp] theorem claimAfterClose_register (s : State) : (claimAfterClose s).register = s.register := by
  unfold claimAfterClose; split <;> simp
@[simp] theorem claimAfterClose_emboss (s : State) : (claimAfterClose s).emboss = s.emboss := by
  unfold claimAfterClose; split <;> simp
@[simp] theorem claimAfterClose_rolls (s : State) : (claimAfterClose s).rolls = s.rolls := by
  unfold claimAfterClose; split <;> simp
@[simp] theorem claimAfterClose_shade (s : State) : (claimAfterClose s).shade = s.shade := by
  unfold claimAfterClose; split <;> simp
@[simp] theorem claimAfterClose_link (s : State) : (claimAfterClose s).link = s.link := by
  unfold claimAfterClose; split <;> simp
@[simp] theorem claimAfterClose_pins (s : State) : (claimAfterClose s).pins = s.pins := by
  unfold claimAfterClose; split <;> simp
@[simp] theorem claimAfterClose_model (s : State) : (claimAfterClose s).model = s.model := by
  unfold claimAfterClose; split <;> simp
@[simp] theorem claimAfterClose_pending (s : State) : (claimAfterClose s).pending = s.pending := by
  unfold claimAfterClose; split <;> simp

@[simp] theorem claimAfterRemoval_pos (s : State) : (claimAfterRemoval s).pos = s.pos := by
  unfold claimAfterRemoval; split <;> simp
@[simp] theorem claimAfterRemoval_map (s : State) : (claimAfterRemoval s).map = s.map := by
  unfold claimAfterRemoval; split <;> simp
@[simp] theorem claimAfterRemoval_jobs (s : State) : (claimAfterRemoval s).jobs = s.jobs := by
  unfold claimAfterRemoval; split <;> simp
@[simp] theorem claimAfterRemoval_register (s : State) : (claimAfterRemoval s).register = s.register := by
  unfold claimAfterRemoval; split <;> simp
@[simp] theorem claimAfterRemoval_emboss (s : State) : (claimAfterRemoval s).emboss = s.emboss := by
  unfold claimAfterRemoval; split <;> simp
@[simp] theorem claimAfterRemoval_rolls (s : State) : (claimAfterRemoval s).rolls = s.rolls := by
  unfold claimAfterRemoval; split <;> simp
@[simp] theorem claimAfterRemoval_shade (s : State) : (claimAfterRemoval s).shade = s.shade := by
  unfold claimAfterRemoval; split <;> simp
@[simp] theorem claimAfterRemoval_link (s : State) : (claimAfterRemoval s).link = s.link := by
  unfold claimAfterRemoval; split <;> simp
@[simp] theorem claimAfterRemoval_pins (s : State) : (claimAfterRemoval s).pins = s.pins := by
  unfold claimAfterRemoval; split <;> simp
@[simp] theorem claimAfterRemoval_model (s : State) : (claimAfterRemoval s).model = s.model := by
  unfold claimAfterRemoval; split <;> simp
@[simp] theorem claimAfterRemoval_pending (s : State) : (claimAfterRemoval s).pending = s.pending := by
  unfold claimAfterRemoval; split <;> simp

@[simp] theorem queueLabel_pos (r : LabelRecord) (s : State) : ((queueLabel r s).2).pos = s.pos := by
  unfold queueLabel; dsimp only; repeat' split
  all_goals simp
@[simp] theorem queueLabel_map (r : LabelRecord) (s : State) : ((queueLabel r s).2).map = s.map := by
  unfold queueLabel; dsimp only; repeat' split
  all_goals simp
@[simp] theorem queueLabel_jobs (r : LabelRecord) (s : State) : ((queueLabel r s).2).jobs = s.jobs := by
  unfold queueLabel; dsimp only; repeat' split
  all_goals simp
@[simp] theorem queueLabel_register (r : LabelRecord) (s : State) : ((queueLabel r s).2).register = s.register := by
  unfold queueLabel; dsimp only; repeat' split
  all_goals simp
@[simp] theorem queueLabel_emboss (r : LabelRecord) (s : State) : ((queueLabel r s).2).emboss = s.emboss := by
  unfold queueLabel; dsimp only; repeat' split
  all_goals simp
@[simp] theorem queueLabel_rolls (r : LabelRecord) (s : State) : ((queueLabel r s).2).rolls = s.rolls := by
  unfold queueLabel; dsimp only; repeat' split
  all_goals simp
@[simp] theorem queueLabel_shade (r : LabelRecord) (s : State) : ((queueLabel r s).2).shade = s.shade := by
  unfold queueLabel; dsimp only; repeat' split
  all_goals simp
@[simp] theorem queueLabel_speed (r : LabelRecord) (s : State) : ((queueLabel r s).2).speed = s.speed := by
  unfold queueLabel; dsimp only; repeat' split
  all_goals simp
@[simp] theorem queueLabel_pins (r : LabelRecord) (s : State) : ((queueLabel r s).2).pins = s.pins := by
  unfold queueLabel; dsimp only; repeat' split
  all_goals simp
@[simp] theorem queueLabel_model (r : LabelRecord) (s : State) : ((queueLabel r s).2).model = s.model := by
  unfold queueLabel; dsimp only; repeat' split
  all_goals simp
@[simp] theorem queueLabel_pending (r : LabelRecord) (s : State) : ((queueLabel r s).2).pending = s.pending := by
  unfold queueLabel; dsimp only; repeat' split
  all_goals simp

@[simp] theorem removeLabel_pos (n : Nat) (s : State) : (removeLabel n s).pos = s.pos := by
  simp [removeLabel]
@[simp] theorem removeLabel_map (n : Nat) (s : State) : (removeLabel n s).map = s.map := by
  simp [removeLabel]
@[simp] theorem removeLabel_jobs (n : Nat) (s : State) : (removeLabel n s).jobs = s.jobs := by
  simp [removeLabel]
@[simp] theorem removeLabel_register (n : Nat) (s : State) : (removeLabel n s).register = s.register := by
  simp [removeLabel]
@[simp] theorem removeLabel_emboss (n : Nat) (s : State) : (removeLabel n s).emboss = s.emboss := by
  simp [removeLabel]
@[simp] theorem removeLabel_rolls (n : Nat) (s : State) : (removeLabel n s).rolls = s.rolls := by
  simp [removeLabel]
@[simp] theorem removeLabel_shade (n : Nat) (s : State) : (removeLabel n s).shade = s.shade := by
  simp [removeLabel]
@[simp] theorem removeLabel_link (n : Nat) (s : State) : (removeLabel n s).link = s.link := by
  simp [removeLabel]
@[simp] theorem removeLabel_pins (n : Nat) (s : State) : (removeLabel n s).pins = s.pins := by
  simp [removeLabel]
@[simp] theorem removeLabel_model (n : Nat) (s : State) : (removeLabel n s).model = s.model := by
  simp [removeLabel]
@[simp] theorem removeLabel_pending (n : Nat) (s : State) : (removeLabel n s).pending = s.pending := by
  simp [removeLabel]

@[simp] theorem takeOldestLabel_pos (r : LabelRecord) (rest : List LabelRecord) (s : State) : (takeOldestLabel r rest s).pos = s.pos := by
  simp [takeOldestLabel]
@[simp] theorem takeOldestLabel_map (r : LabelRecord) (rest : List LabelRecord) (s : State) : (takeOldestLabel r rest s).map = s.map := by
  simp [takeOldestLabel]
@[simp] theorem takeOldestLabel_jobs (r : LabelRecord) (rest : List LabelRecord) (s : State) : (takeOldestLabel r rest s).jobs = s.jobs := by
  simp [takeOldestLabel]
@[simp] theorem takeOldestLabel_register (r : LabelRecord) (rest : List LabelRecord) (s : State) : (takeOldestLabel r rest s).register = s.register := by
  simp [takeOldestLabel]
@[simp] theorem takeOldestLabel_emboss (r : LabelRecord) (rest : List LabelRecord) (s : State) : (takeOldestLabel r rest s).emboss = s.emboss := by
  simp [takeOldestLabel]
@[simp] theorem takeOldestLabel_shade (r : LabelRecord) (rest : List LabelRecord) (s : State) : (takeOldestLabel r rest s).shade = s.shade := by
  simp [takeOldestLabel]
@[simp] theorem takeOldestLabel_link (r : LabelRecord) (rest : List LabelRecord) (s : State) : (takeOldestLabel r rest s).link = s.link := by
  simp [takeOldestLabel]
@[simp] theorem takeOldestLabel_pins (r : LabelRecord) (rest : List LabelRecord) (s : State) : (takeOldestLabel r rest s).pins = s.pins := by
  simp [takeOldestLabel]
@[simp] theorem takeOldestLabel_model (r : LabelRecord) (rest : List LabelRecord) (s : State) : (takeOldestLabel r rest s).model = s.model := by
  simp [takeOldestLabel]
@[simp] theorem takeOldestLabel_pending (r : LabelRecord) (rest : List LabelRecord) (s : State) : (takeOldestLabel r rest s).pending = s.pending := by
  simp [takeOldestLabel]

@[simp] theorem reissueLabel_pos (e : HistoryEntry) (s : State) : (reissueLabel e s).pos = s.pos := by
  unfold reissueLabel; split <;> simp
@[simp] theorem reissueLabel_map (e : HistoryEntry) (s : State) : (reissueLabel e s).map = s.map := by
  unfold reissueLabel; split <;> simp
@[simp] theorem reissueLabel_jobs (e : HistoryEntry) (s : State) : (reissueLabel e s).jobs = s.jobs := by
  unfold reissueLabel; split <;> simp
@[simp] theorem reissueLabel_register (e : HistoryEntry) (s : State) : (reissueLabel e s).register = s.register := by
  unfold reissueLabel; split <;> simp
@[simp] theorem reissueLabel_emboss (e : HistoryEntry) (s : State) : (reissueLabel e s).emboss = s.emboss := by
  unfold reissueLabel; split <;> simp
@[simp] theorem reissueLabel_shade (e : HistoryEntry) (s : State) : (reissueLabel e s).shade = s.shade := by
  unfold reissueLabel; split <;> simp
@[simp] theorem reissueLabel_link (e : HistoryEntry) (s : State) : (reissueLabel e s).link = s.link := by
  unfold reissueLabel; split <;> simp
@[simp] theorem reissueLabel_pins (e : HistoryEntry) (s : State) : (reissueLabel e s).pins = s.pins := by
  unfold reissueLabel; split <;> simp
@[simp] theorem reissueLabel_model (e : HistoryEntry) (s : State) : (reissueLabel e s).model = s.model := by
  unfold reissueLabel; split <;> simp
@[simp] theorem reissueLabel_pending (e : HistoryEntry) (s : State) : (reissueLabel e s).pending = s.pending := by
  unfold reissueLabel; split <;> simp

/-! ### Rolls -/

@[simp] theorem setLane_pos (l : Lane) (r : LaneRecord) (s : State) : (setLane l r s).pos = s.pos := by
  rfl
@[simp] theorem setLane_map (l : Lane) (r : LaneRecord) (s : State) : (setLane l r s).map = s.map := by
  rfl
@[simp] theorem setLane_jobs (l : Lane) (r : LaneRecord) (s : State) : (setLane l r s).jobs = s.jobs := by
  rfl
@[simp] theorem setLane_register (l : Lane) (r : LaneRecord) (s : State) : (setLane l r s).register = s.register := by
  rfl
@[simp] theorem setLane_emboss (l : Lane) (r : LaneRecord) (s : State) : (setLane l r s).emboss = s.emboss := by
  rfl
@[simp] theorem setLane_shade (l : Lane) (r : LaneRecord) (s : State) : (setLane l r s).shade = s.shade := by
  rfl
@[simp] theorem setLane_labels (l : Lane) (r : LaneRecord) (s : State) : (setLane l r s).labels = s.labels := by
  rfl
@[simp] theorem setLane_speed (l : Lane) (r : LaneRecord) (s : State) : (setLane l r s).speed = s.speed := by
  rfl
@[simp] theorem setLane_link (l : Lane) (r : LaneRecord) (s : State) : (setLane l r s).link = s.link := by
  rfl
@[simp] theorem setLane_pins (l : Lane) (r : LaneRecord) (s : State) : (setLane l r s).pins = s.pins := by
  rfl
@[simp] theorem setLane_model (l : Lane) (r : LaneRecord) (s : State) : (setLane l r s).model = s.model := by
  rfl
@[simp] theorem setLane_pending (l : Lane) (r : LaneRecord) (s : State) : (setLane l r s).pending = s.pending := by
  rfl

@[simp] theorem placeKnife_pos (s : State) : (placeKnife s).pos = s.pos := by
  rfl
@[simp] theorem placeKnife_map (s : State) : (placeKnife s).map = s.map := by
  rfl
@[simp] theorem placeKnife_jobs (s : State) : (placeKnife s).jobs = s.jobs := by
  rfl
@[simp] theorem placeKnife_register (s : State) : (placeKnife s).register = s.register := by
  rfl
@[simp] theorem placeKnife_emboss (s : State) : (placeKnife s).emboss = s.emboss := by
  rfl
@[simp] theorem placeKnife_shade (s : State) : (placeKnife s).shade = s.shade := by
  rfl
@[simp] theorem placeKnife_labels (s : State) : (placeKnife s).labels = s.labels := by
  rfl
@[simp] theorem placeKnife_speed (s : State) : (placeKnife s).speed = s.speed := by
  rfl
@[simp] theorem placeKnife_link (s : State) : (placeKnife s).link = s.link := by
  rfl
@[simp] theorem placeKnife_pins (s : State) : (placeKnife s).pins = s.pins := by
  rfl
@[simp] theorem placeKnife_model (s : State) : (placeKnife s).model = s.model := by
  rfl
@[simp] theorem placeKnife_pending (s : State) : (placeKnife s).pending = s.pending := by
  rfl

@[simp] theorem takeRollId_pos (l : Lane) (s : State) : (takeRollId l s).pos = s.pos := by
  unfold takeRollId; dsimp only; split <;> simp
@[simp] theorem takeRollId_map (l : Lane) (s : State) : (takeRollId l s).map = s.map := by
  unfold takeRollId; dsimp only; split <;> simp
@[simp] theorem takeRollId_jobs (l : Lane) (s : State) : (takeRollId l s).jobs = s.jobs := by
  unfold takeRollId; dsimp only; split <;> simp
@[simp] theorem takeRollId_register (l : Lane) (s : State) : (takeRollId l s).register = s.register := by
  unfold takeRollId; dsimp only; split <;> simp
@[simp] theorem takeRollId_emboss (l : Lane) (s : State) : (takeRollId l s).emboss = s.emboss := by
  unfold takeRollId; dsimp only; split <;> simp
@[simp] theorem takeRollId_shade (l : Lane) (s : State) : (takeRollId l s).shade = s.shade := by
  unfold takeRollId; dsimp only; split <;> simp
@[simp] theorem takeRollId_labels (l : Lane) (s : State) : (takeRollId l s).labels = s.labels := by
  unfold takeRollId; dsimp only; split <;> simp
@[simp] theorem takeRollId_speed (l : Lane) (s : State) : (takeRollId l s).speed = s.speed := by
  unfold takeRollId; dsimp only; split <;> simp
@[simp] theorem takeRollId_link (l : Lane) (s : State) : (takeRollId l s).link = s.link := by
  unfold takeRollId; dsimp only; split <;> simp
@[simp] theorem takeRollId_pins (l : Lane) (s : State) : (takeRollId l s).pins = s.pins := by
  unfold takeRollId; dsimp only; split <;> simp
@[simp] theorem takeRollId_model (l : Lane) (s : State) : (takeRollId l s).model = s.model := by
  unfold takeRollId; dsimp only; split <;> simp
@[simp] theorem takeRollId_pending (l : Lane) (s : State) : (takeRollId l s).pending = s.pending := by
  unfold takeRollId; dsimp only; split <;> simp

@[simp] theorem foldLane_pos (k : Repeat) (s : State) (l : Lane) : (foldLane k s l).pos = s.pos := by
  unfold foldLane; dsimp only; repeat' split
  all_goals simp
@[simp] theorem foldLane_map (k : Repeat) (s : State) (l : Lane) : (foldLane k s l).map = s.map := by
  unfold foldLane; dsimp only; repeat' split
  all_goals simp
@[simp] theorem foldLane_jobs (k : Repeat) (s : State) (l : Lane) : (foldLane k s l).jobs = s.jobs := by
  unfold foldLane; dsimp only; repeat' split
  all_goals simp
@[simp] theorem foldLane_register (k : Repeat) (s : State) (l : Lane) : (foldLane k s l).register = s.register := by
  unfold foldLane; dsimp only; repeat' split
  all_goals simp
@[simp] theorem foldLane_emboss (k : Repeat) (s : State) (l : Lane) : (foldLane k s l).emboss = s.emboss := by
  unfold foldLane; dsimp only; repeat' split
  all_goals simp
@[simp] theorem foldLane_shade (k : Repeat) (s : State) (l : Lane) : (foldLane k s l).shade = s.shade := by
  unfold foldLane; dsimp only; repeat' split
  all_goals simp
@[simp] theorem foldLane_labels (k : Repeat) (s : State) (l : Lane) : (foldLane k s l).labels = s.labels := by
  unfold foldLane; dsimp only; repeat' split
  all_goals simp
@[simp] theorem foldLane_speed (k : Repeat) (s : State) (l : Lane) : (foldLane k s l).speed = s.speed := by
  unfold foldLane; dsimp only; repeat' split
  all_goals simp
@[simp] theorem foldLane_link (k : Repeat) (s : State) (l : Lane) : (foldLane k s l).link = s.link := by
  unfold foldLane; dsimp only; repeat' split
  all_goals simp
@[simp] theorem foldLane_pins (k : Repeat) (s : State) (l : Lane) : (foldLane k s l).pins = s.pins := by
  unfold foldLane; dsimp only; repeat' split
  all_goals simp
@[simp] theorem foldLane_pending (k : Repeat) (s : State) (l : Lane) : (foldLane k s l).pending = s.pending := by
  unfold foldLane; dsimp only; repeat' split
  all_goals simp

@[simp] theorem closeRoll_pos (l : Lane) (k : RollKind) (r : CloseReason) (s : State) : (closeRoll l k r s).pos = s.pos := by
  simp [closeRoll]
@[simp] theorem closeRoll_map (l : Lane) (k : RollKind) (r : CloseReason) (s : State) : (closeRoll l k r s).map = s.map := by
  simp [closeRoll]
@[simp] theorem closeRoll_jobs (l : Lane) (k : RollKind) (r : CloseReason) (s : State) : (closeRoll l k r s).jobs = s.jobs := by
  simp [closeRoll]
@[simp] theorem closeRoll_register (l : Lane) (k : RollKind) (r : CloseReason) (s : State) : (closeRoll l k r s).register = s.register := by
  simp [closeRoll]
@[simp] theorem closeRoll_emboss (l : Lane) (k : RollKind) (r : CloseReason) (s : State) : (closeRoll l k r s).emboss = s.emboss := by
  simp [closeRoll]
@[simp] theorem closeRoll_pins (l : Lane) (k : RollKind) (r : CloseReason) (s : State) : (closeRoll l k r s).pins = s.pins := by
  simp [closeRoll]
@[simp] theorem closeRoll_model (l : Lane) (k : RollKind) (r : CloseReason) (s : State) : (closeRoll l k r s).model = s.model := by
  simp [closeRoll]
@[simp] theorem closeRoll_pending (l : Lane) (k : RollKind) (r : CloseReason) (s : State) : (closeRoll l k r s).pending = s.pending := by
  simp [closeRoll]

@[simp] theorem strobe_pos (l : Lane) (s : State) : (strobe l s).pos = s.pos := by
  rfl
@[simp] theorem strobe_map (l : Lane) (s : State) : (strobe l s).map = s.map := by
  rfl
@[simp] theorem strobe_jobs (l : Lane) (s : State) : (strobe l s).jobs = s.jobs := by
  rfl
@[simp] theorem strobe_register (l : Lane) (s : State) : (strobe l s).register = s.register := by
  rfl
@[simp] theorem strobe_emboss (l : Lane) (s : State) : (strobe l s).emboss = s.emboss := by
  rfl
@[simp] theorem strobe_rolls (l : Lane) (s : State) : (strobe l s).rolls = s.rolls := by
  rfl
@[simp] theorem strobe_shade (l : Lane) (s : State) : (strobe l s).shade = s.shade := by
  rfl
@[simp] theorem strobe_labels (l : Lane) (s : State) : (strobe l s).labels = s.labels := by
  rfl
@[simp] theorem strobe_speed (l : Lane) (s : State) : (strobe l s).speed = s.speed := by
  rfl
@[simp] theorem strobe_link (l : Lane) (s : State) : (strobe l s).link = s.link := by
  rfl
@[simp] theorem strobe_model (l : Lane) (s : State) : (strobe l s).model = s.model := by
  rfl
@[simp] theorem strobe_pending (l : Lane) (s : State) : (strobe l s).pending = s.pending := by
  rfl

@[simp] theorem cutLane_pos (l : Lane) (r : CloseReason) (s : State) : (cutLane l r s).pos = s.pos := by
  unfold cutLane; split <;> simp
@[simp] theorem cutLane_map (l : Lane) (r : CloseReason) (s : State) : (cutLane l r s).map = s.map := by
  unfold cutLane; split <;> simp
@[simp] theorem cutLane_jobs (l : Lane) (r : CloseReason) (s : State) : (cutLane l r s).jobs = s.jobs := by
  unfold cutLane; split <;> simp
@[simp] theorem cutLane_register (l : Lane) (r : CloseReason) (s : State) : (cutLane l r s).register = s.register := by
  unfold cutLane; split <;> simp
@[simp] theorem cutLane_emboss (l : Lane) (r : CloseReason) (s : State) : (cutLane l r s).emboss = s.emboss := by
  unfold cutLane; split <;> simp
@[simp] theorem cutLane_model (l : Lane) (r : CloseReason) (s : State) : (cutLane l r s).model = s.model := by
  unfold cutLane; split <;> simp
@[simp] theorem cutLane_pending (l : Lane) (r : CloseReason) (s : State) : (cutLane l r s).pending = s.pending := by
  unfold cutLane; split <;> simp

@[simp] theorem decideCut_pos (v : Bool) (k : Repeat) (n : Option Repeat) (s : State) (l : Lane) : (decideCut v k n s l).pos = s.pos := by
  unfold decideCut; repeat' split
  all_goals simp
@[simp] theorem decideCut_map (v : Bool) (k : Repeat) (n : Option Repeat) (s : State) (l : Lane) : (decideCut v k n s l).map = s.map := by
  unfold decideCut; repeat' split
  all_goals simp
@[simp] theorem decideCut_jobs (v : Bool) (k : Repeat) (n : Option Repeat) (s : State) (l : Lane) : (decideCut v k n s l).jobs = s.jobs := by
  unfold decideCut; repeat' split
  all_goals simp
@[simp] theorem decideCut_register (v : Bool) (k : Repeat) (n : Option Repeat) (s : State) (l : Lane) : (decideCut v k n s l).register = s.register := by
  unfold decideCut; repeat' split
  all_goals simp
@[simp] theorem decideCut_emboss (v : Bool) (k : Repeat) (n : Option Repeat) (s : State) (l : Lane) : (decideCut v k n s l).emboss = s.emboss := by
  unfold decideCut; repeat' split
  all_goals simp
@[simp] theorem decideCut_model (v : Bool) (k : Repeat) (n : Option Repeat) (s : State) (l : Lane) : (decideCut v k n s l).model = s.model := by
  unfold decideCut; repeat' split
  all_goals simp
@[simp] theorem decideCut_pending (v : Bool) (k : Repeat) (n : Option Repeat) (s : State) (l : Lane) : (decideCut v k n s l).pending = s.pending := by
  unfold decideCut; repeat' split
  all_goals simp

@[simp] theorem jobClear_map (tag : Nat) (s : State) : (jobClear tag s).map = s.map := by
  unfold jobClear; dsimp only; split <;> simp
@[simp] theorem jobClear_emboss (tag : Nat) (s : State) : (jobClear tag s).emboss = s.emboss := by
  unfold jobClear; dsimp only; split <;> simp
@[simp] theorem jobClear_rolls (tag : Nat) (s : State) : (jobClear tag s).rolls = s.rolls := by
  unfold jobClear; dsimp only; split <;> simp
@[simp] theorem jobClear_labels (tag : Nat) (s : State) : (jobClear tag s).labels = s.labels := by
  unfold jobClear; dsimp only; split <;> simp
@[simp] theorem jobClear_pins (tag : Nat) (s : State) : (jobClear tag s).pins = s.pins := by
  unfold jobClear; dsimp only; split <;> simp
@[simp] theorem jobClear_model (tag : Nat) (s : State) : (jobClear tag s).model = s.model := by
  unfold jobClear; dsimp only; split <;> simp
@[simp] theorem jobClear_pending (tag : Nat) (s : State) : (jobClear tag s).pending = s.pending := by
  unfold jobClear; dsimp only; split <;> simp

@[simp] theorem retire_emboss (k : Repeat) (s : State) : (retire k s).emboss = s.emboss := by
  unfold retire; dsimp only; split <;> simp
@[simp] theorem retire_rolls (k : Repeat) (s : State) : (retire k s).rolls = s.rolls := by
  unfold retire; dsimp only; split <;> simp
@[simp] theorem retire_labels (k : Repeat) (s : State) : (retire k s).labels = s.labels := by
  unfold retire; dsimp only; split <;> simp
@[simp] theorem retire_pins (k : Repeat) (s : State) : (retire k s).pins = s.pins := by
  unfold retire; dsimp only; split <;> simp
@[simp] theorem retire_model (k : Repeat) (s : State) : (retire k s).model = s.model := by
  unfold retire; dsimp only; split <;> simp
@[simp] theorem retire_pending (k : Repeat) (s : State) : (retire k s).pending = s.pending := by
  unfold retire; dsimp only; split <;> simp

@[simp] theorem takeUpJob_pos (rec : Repeat) (s : State) : (takeUpJob rec s).pos = s.pos := by
  unfold takeUpJob; split <;> simp
@[simp] theorem takeUpJob_map (rec : Repeat) (s : State) : (takeUpJob rec s).map = s.map := by
  unfold takeUpJob; split <;> simp
@[simp] theorem takeUpJob_jobs (rec : Repeat) (s : State) : (takeUpJob rec s).jobs = s.jobs := by
  unfold takeUpJob; split <;> simp
@[simp] theorem takeUpJob_register (rec : Repeat) (s : State) : (takeUpJob rec s).register = s.register := by
  unfold takeUpJob; split <;> simp
@[simp] theorem takeUpJob_emboss (rec : Repeat) (s : State) : (takeUpJob rec s).emboss = s.emboss := by
  unfold takeUpJob; split <;> simp
@[simp] theorem takeUpJob_shade (rec : Repeat) (s : State) : (takeUpJob rec s).shade = s.shade := by
  unfold takeUpJob; split <;> simp
@[simp] theorem takeUpJob_labels (rec : Repeat) (s : State) : (takeUpJob rec s).labels = s.labels := by
  unfold takeUpJob; split <;> simp
@[simp] theorem takeUpJob_speed (rec : Repeat) (s : State) : (takeUpJob rec s).speed = s.speed := by
  unfold takeUpJob; split <;> simp
@[simp] theorem takeUpJob_link (rec : Repeat) (s : State) : (takeUpJob rec s).link = s.link := by
  unfold takeUpJob; split <;> simp
@[simp] theorem takeUpJob_pins (rec : Repeat) (s : State) : (takeUpJob rec s).pins = s.pins := by
  unfold takeUpJob; split <;> simp
@[simp] theorem takeUpJob_model (rec : Repeat) (s : State) : (takeUpJob rec s).model = s.model := by
  unfold takeUpJob; split <;> simp
@[simp] theorem takeUpJob_pending (rec : Repeat) (s : State) : (takeUpJob rec s).pending = s.pending := by
  unfold takeUpJob; split <;> simp

@[simp] theorem lanesIdle_pos (s : State) : (lanesIdle s).pos = s.pos := by
  rfl
@[simp] theorem lanesIdle_map (s : State) : (lanesIdle s).map = s.map := by
  rfl
@[simp] theorem lanesIdle_jobs (s : State) : (lanesIdle s).jobs = s.jobs := by
  rfl
@[simp] theorem lanesIdle_register (s : State) : (lanesIdle s).register = s.register := by
  rfl
@[simp] theorem lanesIdle_emboss (s : State) : (lanesIdle s).emboss = s.emboss := by
  rfl
@[simp] theorem lanesIdle_shade (s : State) : (lanesIdle s).shade = s.shade := by
  rfl
@[simp] theorem lanesIdle_labels (s : State) : (lanesIdle s).labels = s.labels := by
  rfl
@[simp] theorem lanesIdle_speed (s : State) : (lanesIdle s).speed = s.speed := by
  rfl
@[simp] theorem lanesIdle_link (s : State) : (lanesIdle s).link = s.link := by
  rfl
@[simp] theorem lanesIdle_pins (s : State) : (lanesIdle s).pins = s.pins := by
  rfl
@[simp] theorem lanesIdle_model (s : State) : (lanesIdle s).model = s.model := by
  rfl
@[simp] theorem lanesIdle_pending (s : State) : (lanesIdle s).pending = s.pending := by
  rfl

@[simp] theorem foldAndCut_pos (v : Bool) (k : Repeat) (n : Option Repeat) (s : State) : (foldAndCut v k n s).pos = s.pos := by
  unfold foldAndCut
  exact (foldl_keeps (·.pos) _ (fun _ _ => by simp) _ _).trans (foldl_keeps (·.pos) _ (fun _ _ => by simp) _ _)
@[simp] theorem foldAndCut_map (v : Bool) (k : Repeat) (n : Option Repeat) (s : State) : (foldAndCut v k n s).map = s.map := by
  unfold foldAndCut
  exact (foldl_keeps (·.map) _ (fun _ _ => by simp) _ _).trans (foldl_keeps (·.map) _ (fun _ _ => by simp) _ _)
@[simp] theorem foldAndCut_jobs (v : Bool) (k : Repeat) (n : Option Repeat) (s : State) : (foldAndCut v k n s).jobs = s.jobs := by
  unfold foldAndCut
  exact (foldl_keeps (·.jobs) _ (fun _ _ => by simp) _ _).trans (foldl_keeps (·.jobs) _ (fun _ _ => by simp) _ _)
@[simp] theorem foldAndCut_register (v : Bool) (k : Repeat) (n : Option Repeat) (s : State) : (foldAndCut v k n s).register = s.register := by
  unfold foldAndCut
  exact (foldl_keeps (·.register) _ (fun _ _ => by simp) _ _).trans (foldl_keeps (·.register) _ (fun _ _ => by simp) _ _)
@[simp] theorem foldAndCut_emboss (v : Bool) (k : Repeat) (n : Option Repeat) (s : State) : (foldAndCut v k n s).emboss = s.emboss := by
  unfold foldAndCut
  exact (foldl_keeps (·.emboss) _ (fun _ _ => by simp) _ _).trans (foldl_keeps (·.emboss) _ (fun _ _ => by simp) _ _)
@[simp] theorem foldAndCut_pending (v : Bool) (k : Repeat) (n : Option Repeat) (s : State) : (foldAndCut v k n s).pending = s.pending := by
  unfold foldAndCut
  exact (foldl_keeps (·.pending) _ (fun _ _ => by simp) _ _).trans (foldl_keeps (·.pending) _ (fun _ _ => by simp) _ _)

@[simp] theorem switchLanes_pos (v : Bool) (n : Option Repeat) (s : State) : (switchLanes v n s).pos = s.pos := by
  unfold switchLanes; repeat' split
  all_goals simp
@[simp] theorem switchLanes_map (v : Bool) (n : Option Repeat) (s : State) : (switchLanes v n s).map = s.map := by
  unfold switchLanes; repeat' split
  all_goals simp
@[simp] theorem switchLanes_jobs (v : Bool) (n : Option Repeat) (s : State) : (switchLanes v n s).jobs = s.jobs := by
  unfold switchLanes; repeat' split
  all_goals simp
@[simp] theorem switchLanes_register (v : Bool) (n : Option Repeat) (s : State) : (switchLanes v n s).register = s.register := by
  unfold switchLanes; repeat' split
  all_goals simp
@[simp] theorem switchLanes_emboss (v : Bool) (n : Option Repeat) (s : State) : (switchLanes v n s).emboss = s.emboss := by
  unfold switchLanes; repeat' split
  all_goals simp
@[simp] theorem switchLanes_shade (v : Bool) (n : Option Repeat) (s : State) : (switchLanes v n s).shade = s.shade := by
  unfold switchLanes; repeat' split
  all_goals simp
@[simp] theorem switchLanes_labels (v : Bool) (n : Option Repeat) (s : State) : (switchLanes v n s).labels = s.labels := by
  unfold switchLanes; repeat' split
  all_goals simp
@[simp] theorem switchLanes_speed (v : Bool) (n : Option Repeat) (s : State) : (switchLanes v n s).speed = s.speed := by
  unfold switchLanes; repeat' split
  all_goals simp
@[simp] theorem switchLanes_link (v : Bool) (n : Option Repeat) (s : State) : (switchLanes v n s).link = s.link := by
  unfold switchLanes; repeat' split
  all_goals simp
@[simp] theorem switchLanes_pins (v : Bool) (n : Option Repeat) (s : State) : (switchLanes v n s).pins = s.pins := by
  unfold switchLanes; repeat' split
  all_goals simp
@[simp] theorem switchLanes_model (v : Bool) (n : Option Repeat) (s : State) : (switchLanes v n s).model = s.model := by
  unfold switchLanes; repeat' split
  all_goals simp
@[simp] theorem switchLanes_pending (v : Bool) (n : Option Repeat) (s : State) : (switchLanes v n s).pending = s.pending := by
  unfold switchLanes; repeat' split
  all_goals simp

@[simp] theorem actAtKnife_emboss (kind : KnifeKind) (k : Repeat) (s : State) : (actAtKnife kind k s).emboss = s.emboss := by
  simp [actAtKnife]
@[simp] theorem actAtKnife_pending (kind : KnifeKind) (k : Repeat) (s : State) : (actAtKnife kind k s).pending = s.pending := by
  simp [actAtKnife]

@[simp] theorem settleKnife_emboss (n : Nat) (s : State) : (settleKnife n s).emboss = s.emboss := by
  induction n generalizing s with
  | zero => rfl
  | succ n ih =>
    unfold settleKnife; repeat' split
    all_goals simp [ih]
@[simp] theorem settleKnife_pending (n : Nat) (s : State) : (settleKnife n s).pending = s.pending := by
  induction n generalizing s with
  | zero => rfl
  | succ n ih =>
    unfold settleKnife; repeat' split
    all_goals simp [ih]

@[simp] theorem restKnife_emboss (s : State) : (restKnife s).emboss = s.emboss := by
  simp [restKnife]
@[simp] theorem restKnife_pending (s : State) : (restKnife s).pending = s.pending := by
  simp [restKnife]

@[simp] theorem knifeCrossing_emboss (s : State) : (knifeCrossing s).emboss = s.emboss := by
  unfold knifeCrossing; split <;> simp
@[simp] theorem knifeCrossing_pending (s : State) : (knifeCrossing s).pending = s.pending := by
  unfold knifeCrossing; split <;> simp

@[simp] theorem knifeAtCreation_emboss (rec : Repeat) (s : State) : (knifeAtCreation rec s).emboss = s.emboss := by
  unfold knifeAtCreation; repeat' split
  all_goals simp
@[simp] theorem knifeAtCreation_pending (rec : Repeat) (s : State) : (knifeAtCreation rec s).pending = s.pending := by
  unfold knifeAtCreation; repeat' split
  all_goals simp

@[simp] theorem forceLanes_pos (mask : PerLane Bool) (s : State) : (forceLanes mask s).pos = s.pos := by
  rfl
@[simp] theorem forceLanes_map (mask : PerLane Bool) (s : State) : (forceLanes mask s).map = s.map := by
  rfl
@[simp] theorem forceLanes_jobs (mask : PerLane Bool) (s : State) : (forceLanes mask s).jobs = s.jobs := by
  rfl
@[simp] theorem forceLanes_register (mask : PerLane Bool) (s : State) : (forceLanes mask s).register = s.register := by
  rfl
@[simp] theorem forceLanes_emboss (mask : PerLane Bool) (s : State) : (forceLanes mask s).emboss = s.emboss := by
  rfl
@[simp] theorem forceLanes_shade (mask : PerLane Bool) (s : State) : (forceLanes mask s).shade = s.shade := by
  rfl
@[simp] theorem forceLanes_labels (mask : PerLane Bool) (s : State) : (forceLanes mask s).labels = s.labels := by
  rfl
@[simp] theorem forceLanes_speed (mask : PerLane Bool) (s : State) : (forceLanes mask s).speed = s.speed := by
  rfl
@[simp] theorem forceLanes_link (mask : PerLane Bool) (s : State) : (forceLanes mask s).link = s.link := by
  rfl
@[simp] theorem forceLanes_pins (mask : PerLane Bool) (s : State) : (forceLanes mask s).pins = s.pins := by
  rfl
@[simp] theorem forceLanes_model (mask : PerLane Bool) (s : State) : (forceLanes mask s).model = s.model := by
  rfl
@[simp] theorem forceLanes_pending (mask : PerLane Bool) (s : State) : (forceLanes mask s).pending = s.pending := by
  rfl

@[simp] theorem mergeBack_pos (l : Lane) (c : HistoryEntry) (s : State) : (mergeBack l c s).pos = s.pos := by
  unfold mergeBack; split <;> simp
@[simp] theorem mergeBack_map (l : Lane) (c : HistoryEntry) (s : State) : (mergeBack l c s).map = s.map := by
  unfold mergeBack; split <;> simp
@[simp] theorem mergeBack_jobs (l : Lane) (c : HistoryEntry) (s : State) : (mergeBack l c s).jobs = s.jobs := by
  unfold mergeBack; split <;> simp
@[simp] theorem mergeBack_register (l : Lane) (c : HistoryEntry) (s : State) : (mergeBack l c s).register = s.register := by
  unfold mergeBack; split <;> simp
@[simp] theorem mergeBack_emboss (l : Lane) (c : HistoryEntry) (s : State) : (mergeBack l c s).emboss = s.emboss := by
  unfold mergeBack; split <;> simp
@[simp] theorem mergeBack_link (l : Lane) (c : HistoryEntry) (s : State) : (mergeBack l c s).link = s.link := by
  unfold mergeBack; split <;> simp
@[simp] theorem mergeBack_pins (l : Lane) (c : HistoryEntry) (s : State) : (mergeBack l c s).pins = s.pins := by
  unfold mergeBack; split <;> simp
@[simp] theorem mergeBack_model (l : Lane) (c : HistoryEntry) (s : State) : (mergeBack l c s).model = s.model := by
  unfold mergeBack; split <;> simp
@[simp] theorem mergeBack_pending (l : Lane) (c : HistoryEntry) (s : State) : (mergeBack l c s).pending = s.pending := by
  unfold mergeBack; split <;> simp

@[simp] theorem markCarriesPrior_pos (l : Lane) (s : State) : (markCarriesPrior l s).pos = s.pos := by
  rfl
@[simp] theorem markCarriesPrior_map (l : Lane) (s : State) : (markCarriesPrior l s).map = s.map := by
  rfl
@[simp] theorem markCarriesPrior_jobs (l : Lane) (s : State) : (markCarriesPrior l s).jobs = s.jobs := by
  rfl
@[simp] theorem markCarriesPrior_register (l : Lane) (s : State) : (markCarriesPrior l s).register = s.register := by
  rfl
@[simp] theorem markCarriesPrior_emboss (l : Lane) (s : State) : (markCarriesPrior l s).emboss = s.emboss := by
  rfl
@[simp] theorem markCarriesPrior_shade (l : Lane) (s : State) : (markCarriesPrior l s).shade = s.shade := by
  rfl
@[simp] theorem markCarriesPrior_labels (l : Lane) (s : State) : (markCarriesPrior l s).labels = s.labels := by
  rfl
@[simp] theorem markCarriesPrior_speed (l : Lane) (s : State) : (markCarriesPrior l s).speed = s.speed := by
  rfl
@[simp] theorem markCarriesPrior_link (l : Lane) (s : State) : (markCarriesPrior l s).link = s.link := by
  rfl
@[simp] theorem markCarriesPrior_pins (l : Lane) (s : State) : (markCarriesPrior l s).pins = s.pins := by
  rfl
@[simp] theorem markCarriesPrior_model (l : Lane) (s : State) : (markCarriesPrior l s).model = s.model := by
  rfl
@[simp] theorem markCarriesPrior_pending (l : Lane) (s : State) : (markCarriesPrior l s).pending = s.pending := by
  rfl

@[simp] theorem closeAtLineReset_pos (s : State) (l : Lane) : (closeAtLineReset s l).pos = s.pos := by
  unfold closeAtLineReset; split <;> simp
@[simp] theorem closeAtLineReset_map (s : State) (l : Lane) : (closeAtLineReset s l).map = s.map := by
  unfold closeAtLineReset; split <;> simp
@[simp] theorem closeAtLineReset_jobs (s : State) (l : Lane) : (closeAtLineReset s l).jobs = s.jobs := by
  unfold closeAtLineReset; split <;> simp
@[simp] theorem closeAtLineReset_register (s : State) (l : Lane) : (closeAtLineReset s l).register = s.register := by
  unfold closeAtLineReset; split <;> simp
@[simp] theorem closeAtLineReset_emboss (s : State) (l : Lane) : (closeAtLineReset s l).emboss = s.emboss := by
  unfold closeAtLineReset; split <;> simp
@[simp] theorem closeAtLineReset_pins (s : State) (l : Lane) : (closeAtLineReset s l).pins = s.pins := by
  unfold closeAtLineReset; split <;> simp
@[simp] theorem closeAtLineReset_model (s : State) (l : Lane) : (closeAtLineReset s l).model = s.model := by
  unfold closeAtLineReset; split <;> simp
@[simp] theorem closeAtLineReset_pending (s : State) (l : Lane) : (closeAtLineReset s l).pending = s.pending := by
  unfold closeAtLineReset; split <;> simp

/-! ### Position -/

@[simp] theorem countEdge_map (v : Bool) (s : State) : (countEdge v s).map = s.map := by
  rfl
@[simp] theorem countEdge_jobs (v : Bool) (s : State) : (countEdge v s).jobs = s.jobs := by
  rfl
@[simp] theorem countEdge_register (v : Bool) (s : State) : (countEdge v s).register = s.register := by
  rfl
@[simp] theorem countEdge_emboss (v : Bool) (s : State) : (countEdge v s).emboss = s.emboss := by
  rfl
@[simp] theorem countEdge_rolls (v : Bool) (s : State) : (countEdge v s).rolls = s.rolls := by
  rfl
@[simp] theorem countEdge_shade (v : Bool) (s : State) : (countEdge v s).shade = s.shade := by
  rfl
@[simp] theorem countEdge_labels (v : Bool) (s : State) : (countEdge v s).labels = s.labels := by
  rfl
@[simp] theorem countEdge_speed (v : Bool) (s : State) : (countEdge v s).speed = s.speed := by
  rfl
@[simp] theorem countEdge_link (v : Bool) (s : State) : (countEdge v s).link = s.link := by
  rfl
@[simp] theorem countEdge_pins (v : Bool) (s : State) : (countEdge v s).pins = s.pins := by
  rfl
@[simp] theorem countEdge_model (v : Bool) (s : State) : (countEdge v s).model = s.model := by
  rfl
@[simp] theorem countEdge_pending (v : Bool) (s : State) : (countEdge v s).pending = s.pending := by
  rfl

@[simp] theorem takeInterval_map (s : State) : (takeInterval s).map = s.map := by
  simp [takeInterval]
@[simp] theorem takeInterval_jobs (s : State) : (takeInterval s).jobs = s.jobs := by
  simp [takeInterval]
@[simp] theorem takeInterval_register (s : State) : (takeInterval s).register = s.register := by
  simp [takeInterval]
@[simp] theorem takeInterval_rolls (s : State) : (takeInterval s).rolls = s.rolls := by
  simp [takeInterval]
@[simp] theorem takeInterval_shade (s : State) : (takeInterval s).shade = s.shade := by
  simp [takeInterval]
@[simp] theorem takeInterval_labels (s : State) : (takeInterval s).labels = s.labels := by
  simp [takeInterval]
@[simp] theorem takeInterval_speed (s : State) : (takeInterval s).speed = s.speed := by
  simp [takeInterval]
@[simp] theorem takeInterval_pins (s : State) : (takeInterval s).pins = s.pins := by
  simp [takeInterval]
@[simp] theorem takeInterval_pending (s : State) : (takeInterval s).pending = s.pending := by
  simp [takeInterval]

@[simp] theorem flagSplice_pos (n : Repeat) (s : State) : (flagSplice n s).pos = s.pos := by
  unfold flagSplice; split <;> simp
@[simp] theorem flagSplice_jobs (n : Repeat) (s : State) : (flagSplice n s).jobs = s.jobs := by
  unfold flagSplice; split <;> simp
@[simp] theorem flagSplice_rolls (n : Repeat) (s : State) : (flagSplice n s).rolls = s.rolls := by
  unfold flagSplice; split <;> simp
@[simp] theorem flagSplice_shade (n : Repeat) (s : State) : (flagSplice n s).shade = s.shade := by
  unfold flagSplice; split <;> simp
@[simp] theorem flagSplice_labels (n : Repeat) (s : State) : (flagSplice n s).labels = s.labels := by
  unfold flagSplice; split <;> simp
@[simp] theorem flagSplice_pins (n : Repeat) (s : State) : (flagSplice n s).pins = s.pins := by
  unfold flagSplice; split <;> simp
@[simp] theorem flagSplice_pending (n : Repeat) (s : State) : (flagSplice n s).pending = s.pending := by
  unfold flagSplice; split <;> simp

@[simp] theorem resolveSplices_jobs (s : State) : (resolveSplices s).jobs = s.jobs := by
  unfold resolveSplices; dsimp only; repeat' split
  all_goals simp
@[simp] theorem resolveSplices_rolls (s : State) : (resolveSplices s).rolls = s.rolls := by
  unfold resolveSplices; dsimp only; repeat' split
  all_goals simp
@[simp] theorem resolveSplices_shade (s : State) : (resolveSplices s).shade = s.shade := by
  unfold resolveSplices; dsimp only; repeat' split
  all_goals simp
@[simp] theorem resolveSplices_labels (s : State) : (resolveSplices s).labels = s.labels := by
  unfold resolveSplices; dsimp only; repeat' split
  all_goals simp
@[simp] theorem resolveSplices_pins (s : State) : (resolveSplices s).pins = s.pins := by
  unfold resolveSplices; dsimp only; repeat' split
  all_goals simp
@[simp] theorem resolveSplices_pending (s : State) : (resolveSplices s).pending = s.pending := by
  unfold resolveSplices; dsimp only; repeat' split
  all_goals simp

@[simp] theorem takeSplice_jobs (s : State) : (takeSplice s).jobs = s.jobs := by
  unfold takeSplice; dsimp only; repeat' split
  all_goals simp
@[simp] theorem takeSplice_rolls (s : State) : (takeSplice s).rolls = s.rolls := by
  unfold takeSplice; dsimp only; repeat' split
  all_goals simp
@[simp] theorem takeSplice_shade (s : State) : (takeSplice s).shade = s.shade := by
  unfold takeSplice; dsimp only; repeat' split
  all_goals simp
@[simp] theorem takeSplice_labels (s : State) : (takeSplice s).labels = s.labels := by
  unfold takeSplice; dsimp only; repeat' split
  all_goals simp
@[simp] theorem takeSplice_pins (s : State) : (takeSplice s).pins = s.pins := by
  unfold takeSplice; dsimp only; repeat' split
  all_goals simp
@[simp] theorem takeSplice_pending (s : State) : (takeSplice s).pending = s.pending := by
  unfold takeSplice; dsimp only; repeat' split
  all_goals simp

@[simp] theorem completeNewest_jobs (g : Repeat → Nat) (s : State) : (completeNewest g s).jobs = s.jobs := by
  unfold completeNewest; split <;> simp
@[simp] theorem completeNewest_rolls (g : Repeat → Nat) (s : State) : (completeNewest g s).rolls = s.rolls := by
  unfold completeNewest; split <;> simp
@[simp] theorem completeNewest_shade (g : Repeat → Nat) (s : State) : (completeNewest g s).shade = s.shade := by
  unfold completeNewest; split <;> simp
@[simp] theorem completeNewest_labels (g : Repeat → Nat) (s : State) : (completeNewest g s).labels = s.labels := by
  unfold completeNewest; split <;> simp
@[simp] theorem completeNewest_pins (g : Repeat → Nat) (s : State) : (completeNewest g s).pins = s.pins := by
  unfold completeNewest; split <;> simp
@[simp] theorem completeNewest_pending (g : Repeat → Nat) (s : State) : (completeNewest g s).pending = s.pending := by
  unfold completeNewest; split <;> simp

@[simp] theorem takeSerial_map (s : State) : (takeSerial s).map = s.map := by
  unfold takeSerial; split <;> simp
@[simp] theorem takeSerial_jobs (s : State) : (takeSerial s).jobs = s.jobs := by
  unfold takeSerial; split <;> simp
@[simp] theorem takeSerial_register (s : State) : (takeSerial s).register = s.register := by
  unfold takeSerial; split <;> simp
@[simp] theorem takeSerial_emboss (s : State) : (takeSerial s).emboss = s.emboss := by
  unfold takeSerial; split <;> simp
@[simp] theorem takeSerial_rolls (s : State) : (takeSerial s).rolls = s.rolls := by
  unfold takeSerial; split <;> simp
@[simp] theorem takeSerial_shade (s : State) : (takeSerial s).shade = s.shade := by
  unfold takeSerial; split <;> simp
@[simp] theorem takeSerial_labels (s : State) : (takeSerial s).labels = s.labels := by
  unfold takeSerial; split <;> simp
@[simp] theorem takeSerial_speed (s : State) : (takeSerial s).speed = s.speed := by
  unfold takeSerial; split <;> simp
@[simp] theorem takeSerial_link (s : State) : (takeSerial s).link = s.link := by
  unfold takeSerial; split <;> simp
@[simp] theorem takeSerial_pins (s : State) : (takeSerial s).pins = s.pins := by
  unfold takeSerial; split <;> simp
@[simp] theorem takeSerial_pending (s : State) : (takeSerial s).pending = s.pending := by
  unfold takeSerial; split <;> simp

@[simp] theorem switchJobs_pos (j : JobRecord) (n : Nat) (s : State) : (switchJobs j n s).pos = s.pos := by
  rfl
@[simp] theorem switchJobs_map (j : JobRecord) (n : Nat) (s : State) : (switchJobs j n s).map = s.map := by
  rfl
@[simp] theorem switchJobs_register (j : JobRecord) (n : Nat) (s : State) : (switchJobs j n s).register = s.register := by
  rfl
@[simp] theorem switchJobs_emboss (j : JobRecord) (n : Nat) (s : State) : (switchJobs j n s).emboss = s.emboss := by
  rfl
@[simp] theorem switchJobs_rolls (j : JobRecord) (n : Nat) (s : State) : (switchJobs j n s).rolls = s.rolls := by
  rfl
@[simp] theorem switchJobs_labels (j : JobRecord) (n : Nat) (s : State) : (switchJobs j n s).labels = s.labels := by
  rfl
@[simp] theorem switchJobs_speed (j : JobRecord) (n : Nat) (s : State) : (switchJobs j n s).speed = s.speed := by
  rfl
@[simp] theorem switchJobs_pins (j : JobRecord) (n : Nat) (s : State) : (switchJobs j n s).pins = s.pins := by
  rfl
@[simp] theorem switchJobs_model (j : JobRecord) (n : Nat) (s : State) : (switchJobs j n s).model = s.model := by
  rfl
@[simp] theorem switchJobs_pending (j : JobRecord) (n : Nat) (s : State) : (switchJobs j n s).pending = s.pending := by
  rfl

@[simp] theorem appendRepeat_pos (rec : Repeat) (s : State) : (appendRepeat rec s).pos = s.pos := by
  rfl
@[simp] theorem appendRepeat_jobs (rec : Repeat) (s : State) : (appendRepeat rec s).jobs = s.jobs := by
  rfl
@[simp] theorem appendRepeat_register (rec : Repeat) (s : State) : (appendRepeat rec s).register = s.register := by
  rfl
@[simp] theorem appendRepeat_emboss (rec : Repeat) (s : State) : (appendRepeat rec s).emboss = s.emboss := by
  rfl
@[simp] theorem appendRepeat_rolls (rec : Repeat) (s : State) : (appendRepeat rec s).rolls = s.rolls := by
  rfl
@[simp] theorem appendRepeat_shade (rec : Repeat) (s : State) : (appendRepeat rec s).shade = s.shade := by
  rfl
@[simp] theorem appendRepeat_labels (rec : Repeat) (s : State) : (appendRepeat rec s).labels = s.labels := by
  rfl
@[simp] theorem appendRepeat_speed (rec : Repeat) (s : State) : (appendRepeat rec s).speed = s.speed := by
  rfl
@[simp] theorem appendRepeat_link (rec : Repeat) (s : State) : (appendRepeat rec s).link = s.link := by
  rfl
@[simp] theorem appendRepeat_pins (rec : Repeat) (s : State) : (appendRepeat rec s).pins = s.pins := by
  rfl
@[simp] theorem appendRepeat_model (rec : Repeat) (s : State) : (appendRepeat rec s).model = s.model := by
  rfl
@[simp] theorem appendRepeat_pending (rec : Repeat) (s : State) : (appendRepeat rec s).pending = s.pending := by
  rfl

@[simp] theorem cursorsAtCreation_pending (rec : Repeat) (s : State) : (cursorsAtCreation rec s).pending = s.pending := by
  unfold cursorsAtCreation; dsimp only; split <;> simp

@[simp] theorem nameJob_pos (a : Option JobRecord) (n : Nat) (s : State) : (nameJob a n s).pos = s.pos := by
  unfold nameJob; split <;> simp
@[simp] theorem nameJob_map (a : Option JobRecord) (n : Nat) (s : State) : (nameJob a n s).map = s.map := by
  unfold nameJob; split <;> simp
@[simp] theorem nameJob_register (a : Option JobRecord) (n : Nat) (s : State) : (nameJob a n s).register = s.register := by
  unfold nameJob; split <;> simp
@[simp] theorem nameJob_emboss (a : Option JobRecord) (n : Nat) (s : State) : (nameJob a n s).emboss = s.emboss := by
  unfold nameJob; split <;> simp
@[simp] theorem nameJob_rolls (a : Option JobRecord) (n : Nat) (s : State) : (nameJob a n s).rolls = s.rolls := by
  unfold nameJob; split <;> simp
@[simp] theorem nameJob_labels (a : Option JobRecord) (n : Nat) (s : State) : (nameJob a n s).labels = s.labels := by
  unfold nameJob; split <;> simp
@[simp] theorem nameJob_speed (a : Option JobRecord) (n : Nat) (s : State) : (nameJob a n s).speed = s.speed := by
  unfold nameJob; split <;> simp
@[simp] theorem nameJob_pins (a : Option JobRecord) (n : Nat) (s : State) : (nameJob a n s).pins = s.pins := by
  unfold nameJob; split <;> simp
@[simp] theorem nameJob_model (a : Option JobRecord) (n : Nat) (s : State) : (nameJob a n s).model = s.model := by
  unfold nameJob; split <;> simp
@[simp] theorem nameJob_pending (a : Option JobRecord) (n : Nat) (s : State) : (nameJob a n s).pending = s.pending := by
  unfold nameJob; split <;> simp

@[simp] theorem createRepeat_pending (j : JobRecord) (p : Nat) (o : Origin) (res : StationResult) (s : State) : (createRepeat j p o res s).pending = s.pending := by
  simp [createRepeat]

@[simp] theorem setRef_map (r : RefRecord) (s : State) : (setRef r s).map = s.map := by
  rfl
@[simp] theorem setRef_jobs (r : RefRecord) (s : State) : (setRef r s).jobs = s.jobs := by
  rfl
@[simp] theorem setRef_register (r : RefRecord) (s : State) : (setRef r s).register = s.register := by
  rfl
@[simp] theorem setRef_emboss (r : RefRecord) (s : State) : (setRef r s).emboss = s.emboss := by
  rfl
@[simp] theorem setRef_rolls (r : RefRecord) (s : State) : (setRef r s).rolls = s.rolls := by
  rfl
@[simp] theorem setRef_shade (r : RefRecord) (s : State) : (setRef r s).shade = s.shade := by
  rfl
@[simp] theorem setRef_labels (r : RefRecord) (s : State) : (setRef r s).labels = s.labels := by
  rfl
@[simp] theorem setRef_speed (r : RefRecord) (s : State) : (setRef r s).speed = s.speed := by
  rfl
@[simp] theorem setRef_link (r : RefRecord) (s : State) : (setRef r s).link = s.link := by
  rfl
@[simp] theorem setRef_pins (r : RefRecord) (s : State) : (setRef r s).pins = s.pins := by
  rfl
@[simp] theorem setRef_model (r : RefRecord) (s : State) : (setRef r s).model = s.model := by
  rfl
@[simp] theorem setRef_pending (r : RefRecord) (s : State) : (setRef r s).pending = s.pending := by
  rfl

@[simp] theorem markedRepeat_pending (j : JobRecord) (err : Int) (s : State) : (markedRepeat j err s).pending = s.pending := by
  unfold markedRepeat; split <;> simp

@[simp] theorem refStray_map (s : State) : (refStray s).map = s.map := by
  rfl
@[simp] theorem refStray_jobs (s : State) : (refStray s).jobs = s.jobs := by
  rfl
@[simp] theorem refStray_register (s : State) : (refStray s).register = s.register := by
  rfl
@[simp] theorem refStray_emboss (s : State) : (refStray s).emboss = s.emboss := by
  rfl
@[simp] theorem refStray_rolls (s : State) : (refStray s).rolls = s.rolls := by
  rfl
@[simp] theorem refStray_shade (s : State) : (refStray s).shade = s.shade := by
  rfl
@[simp] theorem refStray_labels (s : State) : (refStray s).labels = s.labels := by
  rfl
@[simp] theorem refStray_speed (s : State) : (refStray s).speed = s.speed := by
  rfl
@[simp] theorem refStray_link (s : State) : (refStray s).link = s.link := by
  rfl
@[simp] theorem refStray_pins (s : State) : (refStray s).pins = s.pins := by
  rfl
@[simp] theorem refStray_model (s : State) : (refStray s).model = s.model := by
  rfl
@[simp] theorem refStray_pending (s : State) : (refStray s).pending = s.pending := by
  rfl

@[simp] theorem takeReferenceMark_pending (s : State) : (takeReferenceMark s).pending = s.pending := by
  unfold takeReferenceMark; repeat' split
  all_goals simp

@[simp] theorem refWindowEnd_pending (s : State) : (refWindowEnd s).pending = s.pending := by
  unfold refWindowEnd; dsimp only; repeat' split
  all_goals simp

/-! ### Crossings -/

@[simp] theorem asEvent_pos (f : State → State) (s : State) (h : ∀ t, (f t).pos = t.pos) : (asEvent f s).pos = s.pos := by
  simp only [asEvent]; split <;> simp [h]
@[simp] theorem asEvent_map (f : State → State) (s : State) (h : ∀ t, (f t).map = t.map) : (asEvent f s).map = s.map := by
  simp only [asEvent]; split <;> simp [h]
@[simp] theorem asEvent_jobs (f : State → State) (s : State) (h : ∀ t, (f t).jobs = t.jobs) : (asEvent f s).jobs = s.jobs := by
  simp only [asEvent]; split <;> simp [h]
@[simp] theorem asEvent_register (f : State → State) (s : State) (h : ∀ t, (f t).register = t.register) : (asEvent f s).register = s.register := by
  simp only [asEvent]; split <;> simp [h]
@[simp] theorem asEvent_emboss (f : State → State) (s : State) (h : ∀ t, (f t).emboss = t.emboss) : (asEvent f s).emboss = s.emboss := by
  simp only [asEvent]; split <;> simp [h]
@[simp] theorem asEvent_rolls (f : State → State) (s : State) (h : ∀ t, (f t).rolls = t.rolls) : (asEvent f s).rolls = s.rolls := by
  simp only [asEvent]; split <;> simp [h]
@[simp] theorem asEvent_shade (f : State → State) (s : State) (h : ∀ t, (f t).shade = t.shade) : (asEvent f s).shade = s.shade := by
  simp only [asEvent]; split <;> simp [h]
@[simp] theorem asEvent_labels (f : State → State) (s : State) (h : ∀ t, (f t).labels = t.labels) : (asEvent f s).labels = s.labels := by
  simp only [asEvent]; split <;> simp [h]
@[simp] theorem asEvent_speed (f : State → State) (s : State) (h : ∀ t, (f t).speed = t.speed) : (asEvent f s).speed = s.speed := by
  simp only [asEvent]; split <;> simp [h]
@[simp] theorem asEvent_pins (f : State → State) (s : State) (h : ∀ t, (f t).pins = t.pins) : (asEvent f s).pins = s.pins := by
  simp only [asEvent]; split <;> simp [h]
@[simp] theorem asEvent_pending (f : State → State) (s : State) (h : ∀ t, (f t).pending = t.pending) : (asEvent f s).pending = s.pending := by
  simp only [asEvent]; split <;> simp [h]

@[simp] theorem takeCrossing_pending (c : Crossing) (s : State) : (takeCrossing c s).pending = s.pending := by
  unfold takeCrossing; split <;> simp

@[simp] theorem drainFuel_pending (n : Nat) (s : State) : (drainFuel n s).pending = s.pending := by
  induction n generalizing s with
  | zero => rfl
  | succ n ih =>
    unfold drainFuel drawTie; repeat' split
    all_goals simp [ih]

@[simp] theorem drain_pending (s : State) : (drain s).pending = s.pending := by
  simp [drain]

@[simp] theorem takeRefEnds_pending (n : Nat) (s : State) : (takeRefEnds n s).pending = s.pending := by
  induction n generalizing s with
  | zero => rfl
  | succ n ih =>
    unfold takeRefEnds; repeat' split
    all_goals simp [ih]

@[simp] theorem takeDue_pending (s : State) : (takeDue s).pending = s.pending := by
  unfold takeDue; repeat' split
  all_goals simp

end Sys2Proof.Machine
end

