-- ==== Sys2Proof/Laws/Ops.lean ====
section
/-! SUPPORT. What the shared operations of Ops, Operands and Speed answer: the arithmetic of the conventions, notices, the ring,
numbers of the named things, bytes, and a speed authority after a change. -/

namespace Sys2Proof.Machine

open Sys2Proof

/-! ### Arithmetic -/

/-- Saturation is the lower of the value and the limit (conventions). -/
theorem saturate_eq_min (limit n : Nat) : saturate limit n = min n limit := rfl

/-- A saturated value does not exceed its limit. -/
theorem saturate_le (limit n : Nat) : saturate limit n ≤ limit := Nat.min_le_right _ _

/-- A clamped value lies in its range. -/
theorem clamp_mem {lo hi : Int} (h : lo ≤ hi) (x : Int) : lo ≤ clamp lo hi x ∧ clamp lo hi x ≤ hi := by
  unfold clamp
  split <;> [skip; split] <;> omega

/-- A value in the range is left as it is. -/
theorem clamp_of_mem {lo hi x : Int} (h1 : lo ≤ x) (h2 : x ≤ hi) : clamp lo hi x = x := by
  unfold clamp
  split <;> [skip; split] <;> omega

/-- Clamping is the nearer end of the range. -/
theorem clamp_eq (lo hi x : Int) (h : lo ≤ hi) : clamp lo hi x = max lo (min hi x) := by
  unfold clamp
  split <;> [skip; split] <;> omega

/-- A count after a raising stays within 255 (R183). -/
theorem raiseCount_le {count : Nat} (held : Bool) (h : count ≤ 255) : raiseCount held count ≤ 255 := by
  unfold raiseCount
  split
  · exact saturate_le _ _
  · exact h

/-! ### Notices -/

@[simp] theorem raiseNotice_masks (k : NoticeKind) (s : State) : (raiseNotice k s).link.masks = s.link.masks := rfl
@[simp] theorem raiseNotice_address (k : NoticeKind) (s : State) : (raiseNotice k s).link.address = s.link.address := rfl
@[simp] theorem raiseNotice_linkState (k : NoticeKind) (s : State) : (raiseNotice k s).link.state = s.link.state := rfl
@[simp] theorem raiseNotice_response (k : NoticeKind) (s : State) : (raiseNotice k s).link.response = s.link.response := rfl
@[simp] theorem raiseNotice_gathered (k : NoticeKind) (s : State) : (raiseNotice k s).link.gathered = s.link.gathered := rfl
@[simp] theorem raiseNotice_broadcast (k : NoticeKind) (s : State) : (raiseNotice k s).link.broadcast = s.link.broadcast := rfl
@[simp] theorem raiseNotice_discards (k : NoticeKind) (s : State) : (raiseNotice k s).link.discards = s.link.discards := rfl
@[simp] theorem raiseNotice_lastReason (k : NoticeKind) (s : State) : (raiseNotice k s).link.lastReason = s.link.lastReason := rfl

/-- The raised kind's count for each master (R183). -/
theorem pendingCount_raiseNotice_same (m : Master) (k : NoticeKind) (s : State) :
    pendingCount m k (raiseNotice k s) = raiseCount ((s.link.masks.get m).get k) (pendingCount m k s) := by
  simp [pendingCount, raiseNotice]

/-- Raising one kind leaves the counts of the others. -/
theorem pendingCount_raiseNotice_other {k k' : NoticeKind} (h : k' ≠ k) (m : Master) (s : State) :
    pendingCount m k' (raiseNotice k s) = pendingCount m k' s := by
  simp [pendingCount, raiseNotice, PerKind.get_set_other _ _ _ _ h]

/-! ### The ring, the history and the batch table -/

/-- A record that is found has the serial it was looked for by, and stands in the ring. -/
theorem findRepeat_eq_some {n : Nat} {s : State} {r : Repeat} (h : findRepeat n s = some r) : r.serial = n ∧ r ∈ s.map.ring := by
  refine ⟨?_, List.mem_of_find?_eq_some h⟩
  simpa using List.find?_some h

/-- A history entry that is found has the roll id it was looked for by, and stands in the history. -/
theorem findEntry_eq_some {n : Nat} {s : State} {e : HistoryEntry} (h : findEntry n s = some e) :
    e.rollId = n ∧ e ∈ s.rolls.history := by
  refine ⟨?_, List.mem_of_find?_eq_some h⟩
  simpa using List.find?_some h

/-- A batch entry that is found has the number it was looked for by, and stands in the table. -/
theorem findBatch_eq_some {n : Nat} {s : State} {b : BatchEntry} (h : findBatch n s = some b) : b.number = n ∧ b ∈ s.shade.batches := by
  refine ⟨?_, List.mem_of_find?_eq_some h⟩
  simpa using List.find?_some h

/-- A lane entry that is found is the lane's. -/
theorem laneEntry_eq_some {r : Repeat} {l : Lane} {e : LaneEntry} (h : r.laneEntry l = some e) : e.lane = l ∧ e ∈ r.lanes := by
  refine ⟨?_, List.mem_of_find?_eq_some h⟩
  simpa using List.find?_some h

/-- A change of one record leaves the number of records. -/
@[simp] theorem updateRepeat_length (n : Nat) (f : Repeat → Repeat) (s : State) :
    (updateRepeat n f s).map.ring.length = s.map.ring.length := by
  simp [updateRepeat]

/-- A change of one record leaves the cursors, the extent and the retired mark. -/
theorem updateRepeat_map (n : Nat) (f : Repeat → Repeat) (s : State) :
    (updateRepeat n f s).map = { s.map with ring := s.map.ring.map fun r => if r.serial == n then f r else r } := rfl

/-- A change that keeps the serial of a record keeps every serial. -/
theorem updateRepeat_serials {f : Repeat → Repeat} (hf : ∀ r, (f r).serial = r.serial) (n : Nat) (s : State) :
    (updateRepeat n f s).map.ring.map (·.serial) = s.map.ring.map (·.serial) := by
  simp only [updateRepeat, State.withMap_map, List.map_map]
  refine List.map_congr_left fun r _ => ?_
  simp only [Function.comp]
  split <;> simp [hf]

/-! ### Numbers of the named things -/

/-- Every lane is found by its number. -/
@[simp] theorem laneOf_laneNumber (l : Lane) : laneOf (laneNumber l) = some l := by cases l <;> rfl

/-- A lane that is found has the number it was looked for by. -/
theorem laneOf_eq_some {n : Nat} {l : Lane} (h : laneOf n = some l) : laneNumber l = n := by
  simpa using List.find?_some h

/-- No lane has a number above 5. -/
theorem laneOf_eq_none {n : Nat} (h : 5 < n) : laneOf n = none := by
  have : ∀ l, laneNumber l ≠ n := fun l => by cases l <;> simp only [laneNumber] <;> omega
  simp [laneOf, this]

/-- Every master is found by its number. -/
@[simp] theorem masterOf_masterNumber (m : Master) : masterOf (masterNumber m) = some m := by cases m <;> rfl

/-- The six lanes are in the list of lanes. -/
@[simp] theorem mem_allLanes (l : Lane) : l ∈ allLanes := by cases l <;> decide

/-- The seven stations are in the list of stations. -/
@[simp] theorem mem_allStations (st : Station) : st ∈ allStations := by cases st <;> decide

/-- The nine slots are in the list of slots. -/
@[simp] theorem mem_allSlots (k : Slot) : k ∈ allSlots := by cases k <;> decide

/-- The fourteen kinds are in the list of kinds. -/
@[simp] theorem mem_allKinds (k : NoticeKind) : k ∈ allKinds := by cases k <;> decide

/-! ### Bytes -/

/-- A number of `k` bytes has `k` bytes. -/
@[simp] theorem bytesOf_length (k n : Nat) : (bytesOf k n).length = k := by
  induction k with
  | zero => rfl
  | succ k ih => simp [bytesOf, ih]

/-- A signed number of `k` bytes has `k` bytes. -/
@[simp] theorem signedBytes_length (k : Nat) (x : Int) : (signedBytes k x).length = k := bytesOf_length _ _

/-! ### Speed authority -/

@[simp] theorem recomputeGranted_slots (u : SpeedUnit) : (recomputeGranted u).slots = u.slots := rfl
@[simp] theorem recomputeGranted_active (u : SpeedUnit) : (recomputeGranted u).active = u.active := rfl
@[simp] theorem recomputeGranted_gate (u : SpeedUnit) : (recomputeGranted u).gateOpen = u.gateOpen := rfl
@[simp] theorem recomputeGranted_run (u : SpeedUnit) : (recomputeGranted u).runSpeed = u.runSpeed := rfl
@[simp] theorem recomputeGranted_crawl (u : SpeedUnit) : (recomputeGranted u).crawlSpeed = u.crawlSpeed := rfl

/-- The granted speed never exceeds the run speed (R168). -/
theorem recomputeGranted_le (u : SpeedUnit) : (recomputeGranted u).granted ≤ u.runSpeed := by
  unfold recomputeGranted grantedSpeed
  split
  · exact Nat.le_refl _
  · exact Nat.min_le_left _ _

@[simp] theorem arbitrate_slots (lowered : Bool) (u : SpeedUnit) : (arbitrate lowered u).slots = u.slots := by
  unfold arbitrate; split <;> rfl
@[simp] theorem arbitrate_gate (lowered : Bool) (u : SpeedUnit) : (arbitrate lowered u).gateOpen = u.gateOpen := by
  unfold arbitrate; split <;> rfl
@[simp] theorem arbitrate_run (lowered : Bool) (u : SpeedUnit) : (arbitrate lowered u).runSpeed = u.runSpeed := by
  unfold arbitrate; split <;> rfl
@[simp] theorem arbitrate_crawl (lowered : Bool) (u : SpeedUnit) : (arbitrate lowered u).crawlSpeed = u.crawlSpeed := by
  unfold arbitrate; split <;> rfl

/-- A change of one slot changes that slot alone. -/
@[simp] theorem changeSlot_slots (k : Slot) (c : Option ClaimValue) (u : SpeedUnit) : (changeSlot k c u).slots = u.slots.set k c :=
  arbitrate_slots _ _

@[simp] theorem setSlot_speed (k : Slot) (c : Option ClaimValue) (s : State) : (setSlot k c s).speed = changeSlot k c s.speed := rfl

/-- Eligibility is of the slots and the gate alone (R161). -/
theorem eligible_congr {u v : SpeedUnit} (h1 : u.slots = v.slots) (h2 : u.gateOpen = v.gateOpen) : eligible u = eligible v := by
  funext k
  simp [eligible, h1, h2]

end Sys2Proof.Machine
end

