-- ==== Sys2Proof/Laws/Requests.lean ====
section
/-! SUPPORT. What a request row does: it is the arrival of its frame, and in LISTENING the request is taken, refused by the link
unit's own checks, or served by its owning block. -/

namespace Sys2Proof.Machine

open Sys2Proof

/-- Every request row is the arrival of the frame that carries its request. -/
theorem exec_request {i : Instr} {m : Master} {tag : Byte} {r : Request} (h : i.request = some (m, tag, r)) (s : State) :
    exec i s = .next (unlessReset (receiveRequest m tag r) s) := by
  cases i <;> simp only [Instr.request, Option.some.injEq, Prod.mk.injEq, reduceCtorEq] at h <;>
    obtain ⟨rfl, rfl, rfl⟩ := h <;> rfl

/-- In LISTENING, with device reset not asserted, the request is taken. -/
theorem exec_request_listening {i : Instr} {m : Master} {tag : Byte} {r : Request} (h : i.request = some (m, tag, r)) {s : State}
    (h1 : s.pins.resetLow = false) (h2 : s.link.state = .listening) : exec i s = .next (takeRequest m tag r s) := by
  simp [exec_request h, unlessReset, h1, receiveRequest, h2]

/-- An event that changes neither the granted speed nor the embosser's mark is its effect alone. -/
theorem asEvent_of_granted {f : State → State} {s : State} (h1 : (f s).speed.granted = s.speed.granted)
    (h2 : s.model.embossNoticed = false) (h3 : (f s).model.embossNoticed = false) : asEvent f s = f s := by
  have hs : s.withModel { s.model with embossNoticed := false } = s := by
    rw [← h2]; rfl
  unfold asEvent
  simp only [hs, h1, if_true]
  rw [← h3]; rfl

/-- With nothing due, taking the due crossings changes nothing. -/
theorem drain_of_settled {s : State} (h : Settled s) : drain s = s := by
  have h : dueCrossings s = [] := h
  obtain ⟨n, hn⟩ : ∃ n, drainBound s = n + 1 := ⟨drainBound s - 1, by unfold drainBound; omega⟩
  simp [drain, hn, drainFuel, lowestDue, h, pickCrossing]

/-- With nothing due, an input edge that waits makes no difference. -/
theorem takeDue_of_settled {s : State} (h : Settled s) : takeDue s = s := by
  have h' : dueCrossings s = [] := h
  simp [takeDue, h', drain_of_settled h]

/-- With no input edge waiting, the due crossings are taken. -/
theorem takeDue_of_noInput {s : State} (h : inputWaits s = false) : takeDue s = drain s := by simp [takeDue, h]

/-- Taking what is due drains, or draws a number and takes that many crossings before the input that waits. -/
theorem takeDue_cases (s : State) : takeDue s = drain s ∨ ∃ n, takeDue s = drainFuel n (advanceDraws 1 s) := by
  unfold takeDue
  split
  · exact .inr ⟨_, rfl⟩
  · exact .inl rfl

/-- With the reference window end ahead of the high-water position, no SYNTH repeat follows. -/
theorem takeRefEnds_of_ahead {s : State} (h : refEndPassed s = false) (n : Nat) : takeRefEnds n s = s := by
  cases n <;> simp [takeRefEnds, h]

/-- What every event of a crossing and every draw keep, draining keeps. -/
theorem drainFuel_keeps {P : State → Prop} (hd : ∀ s, P s → P (advanceDraws 1 s))
    (hc : ∀ c s, P s → P (asEvent (takeCrossing c) s)) (n : Nat) (s : State) (h : P s) : P (drainFuel n s) := by
  induction n generalizing s with
  | zero => exact h
  | succ n ih =>
    unfold drainFuel
    split
    · exact h
    · refine ih _ (hc _ _ ?_)
      unfold drawTie
      split
      · exact hd s h
      · exact h

/-- What every event of a crossing and every draw keep, taking what is due keeps. -/
theorem takeDue_keeps {P : State → Prop} (hd : ∀ s, P s → P (advanceDraws 1 s))
    (hc : ∀ c s, P s → P (asEvent (takeCrossing c) s)) (s : State) (h : P s) : P (takeDue s) := by
  rcases takeDue_cases s with e | ⟨n, e⟩ <;> rw [e]
  · exact drainFuel_keeps hd hc _ s h
  · exact drainFuel_keeps hd hc n _ (hd s h)

/-- What every window end keeps, the SYNTH repeats that follow a mark keep. -/
theorem takeRefEnds_keeps {P : State → Prop} (hw : ∀ s, P s → P (asEvent refWindowEnd s)) (n : Nat) (s : State) (h : P s) :
    P (takeRefEnds n s) := by
  induction n generalizing s with
  | zero => exact h
  | succ n ih =>
    unfold takeRefEnds
    split
    · exact ih _ (hw s h)
    · exact h

/-- While device reset is asserted a command without its own meaning then has no effect. -/
@[simp] theorem unlessReset_of_low {f : State → State} {s : State} (h : s.pins.resetLow = true) : unlessReset f s = s := by
  simp [unlessReset, h]

/-- With device reset not asserted the effect is taken. -/
@[simp] theorem unlessReset_of_high {f : State → State} {s : State} (h : s.pins.resetLow = false) : unlessReset f s = f s := by
  simp [unlessReset, h]

end Sys2Proof.Machine
end

