-- ==== Sys2Proof/Laws/Blocks.lean ====
section
/-! SUPPORT. What the operations of the blocks answer: the bounded lists, the moves of the embosser, the link's updates, the
speed authority after a slot change, and the records a station or a roll operation touches. -/

namespace Sys2Proof.Machine

open Sys2Proof

/-! ### Bounded lists -/

/-- An insertion by key is a reordering of the element and the list. -/
theorem insertBy_perm {α : Type} (key : α → Nat) (x : α) (xs : List α) : (insertBy key x xs).Perm (x :: xs) := by
  induction xs with
  | nil => exact List.Perm.refl _
  | cons y ys ih =>
    unfold insertBy
    split
    · exact List.Perm.refl _
    · exact (ih.cons y).trans (List.Perm.swap x y ys)

/-- An insertion adds one element. -/
@[simp] theorem insertBy_length {α : Type} (key : α → Nat) (x : α) (xs : List α) : (insertBy key x xs).length = xs.length + 1 := by
  simpa using (insertBy_perm key x xs).length_eq

/-- The history keeps its 64 places (R105, R108). -/
theorem joinHistory_length_le {e : HistoryEntry} {h : List HistoryEntry} (hh : h.length ≤ Config.historyMax) :
    (joinHistory e h).length ≤ Config.historyMax := by
  have : Config.historyMax = 64 := rfl
  unfold joinHistory
  split <;> simp <;> omega

/-- The splice lift list keeps its 8 places (R88). -/
theorem enterLift_length_le {hw : Nat} {l : SpliceLift} {ls : List SpliceLift} (h : ls.length ≤ Config.liftListMax) :
    (enterLift hw l ls).length ≤ Config.liftListMax := by
  have h8 : Config.liftListMax = 8 := rfl
  unfold enterLift
  split
  · simp; omega
  · cases hl : ls.getLast? <;> simp <;> omega

/-! ### The embosser -/

/-- A move of the embosser writes its state and its settle count (R84). -/
@[simp] theorem moveEmboss_emboss (state : EmbossState) (count : Nat) (s : State) :
    (moveEmboss state count s).emboss = { s.emboss with state := state, settleCount := count } := by
  unfold moveEmboss noteEmbossMove
  simp only
  split
  · rfl
  · split <;> rfl

/-- The state and the settle count after the causes were found again (R84). -/
theorem retestCauses_emboss (s : State) :
    (retestCauses s).emboss =
      { s.emboss with
        state := (afterCauses (partSettle s) (anyCause s) s.emboss.state s.emboss.settleCount).1
        settleCount := (afterCauses (partSettle s) (anyCause s) s.emboss.state s.emboss.settleCount).2 } := by
  unfold retestCauses afterCauses beginSettling
  cases h : s.emboss.state <;> simp only
  · rw [← h]
  · split
    · rw [← h]
    · split <;> simp_all
  · split
    · simp
    · rw [← h]
  · split
    · simp
    · rw [← h]

/-! ### The link -/

@[simp] theorem discardFrame_link (reason : DiscardReason) (s : State) :
    (discardFrame reason s).link = { s.link with discards := saturate Config.max16 (s.link.discards + 1), lastReason := reason } := rfl
@[simp] theorem setLink_link (state : LinkState) (gathered : List Byte) (s : State) :
    (setLink state gathered s).link = { s.link with state := state, gathered := gathered } := rfl
@[simp] theorem beginAnswer_link (s : State) : (beginAnswer s).link = { s.link with state := .answering, gathered := [] } := rfl

/-- A frame's head has five bytes. -/
@[simp] theorem frameHead_length (address master code tag : Byte) (len : Nat) : (frameHead address master code tag len).length = 5 := rfl

/-- A frame is its body and two bytes of CRC (R176). -/
@[simp] theorem withCrc_length (body : List Byte) : (withCrc body).length = body.length + 2 := by simp [withCrc]

/-- A request's frame has seven bytes more than its payload (R176). -/
theorem requestFrame_length (address : Byte) (m : Master) (tag : Byte) (r : Request) :
    (requestFrame address m tag r).length = 7 + (requestPayload r).length := by
  simp [requestFrame]
  omega

/-! ### Labels and rolls -/

/-- The LABEL claim after a removal (R150): released at a depth of 10 or less, otherwise as it was. -/
theorem claimAfterRemoval_eq (s : State) :
    claimAfterRemoval s = s ∨ claimAfterRemoval s = setSlot .label none (s.withLabels { s.labels with claimHeld := false }) := by
  unfold claimAfterRemoval
  split
  · exact .inr rfl
  · exact .inl rfl

/-- A lane that takes a roll id keeps its other accumulators (R99). -/
theorem takeRollId_lane (l : Lane) (s : State) :
    ∃ i, ((takeRollId l s).rolls.lanes.get l) = { s.rolls.lanes.get l with roll := { (s.rolls.lanes.get l).roll with rollId := some i } } := by
  unfold takeRollId
  simp only
  split
  · next h =>
    obtain ⟨i, hi⟩ := Option.isSome_iff_exists.mp h
    exact ⟨i, by rw [← hi]⟩
  · exact ⟨s.rolls.nextRollId, by simp⟩

end Sys2Proof.Machine
end

