-- ==== Sys2Proof/WellFormed.lean ====
section
/-! DEFINITION. Which commands are well formed. Every operand but one has the exact width of its field on the link; a Load
Job frame carries 52 to 120 payload bytes, or its request is not taken as Load Job at all (request index, R180). -/

namespace Sys2Proof

/-- The payload lengths that the request index allows for Load Job. -/
def loadJobLength (payload : List Byte) : Bool := 52 ≤ payload.length && payload.length ≤ 120

/-- A well-formed command. -/
def WellFormed : Instr → Bool
  | .loadJob _ _ payload => loadJobLength payload
  | .encoderEdge _ | .intervalTimer | .referenceMark | .spliceEdge | .stationMark _ | .strobeEnd _ => true
  | .startDelimiter _ | .framePause | .endDelimiter | .segmentSend | .finalSegmentEnd => true
  | .status _ _ _ | .readRepeat _ _ _ | .readRolls _ _ _ | .readNotices _ _ | .setNoticeMask _ _ _ => true
  | .claim _ _ _ _ | .release _ _ | .setGeometry _ _ _ _ _ | .armJob _ _ | .endJob _ _ | .lineReset _ _ => true
  | .setBroadcast _ _ _ | .takeTrims _ _ | .teachOffsets _ _ | .embossHold _ _ | .embossRelease _ _ => true
  | .startRoll _ _ _ | .cutFault _ _ _ _ | .reseedSampling _ _ | .setSeedLock _ _ _ | .readSamplePlan _ _ => true
  | .shadeSample _ _ _ _ _ _ _ | .defectMark _ _ _ _ _ | .closeBatch _ _ _ | .retireBatch _ _ _ => true
  | .readBatches _ _ | .takeLabel _ _ | .labelApplied _ _ _ | .relabel _ _ _ | .setRunSpeed _ _ _ _ => true
  | .setClaimGate _ _ _ | .deviceReset | .deviceResetRelease _ _ _ => true

end Sys2Proof
end

