-- ==== Sys2Proof/Tests/Slice0.lean ====
section
/-! SUPPORT. Tests whose expected results are the manual's worked examples (named in each comment) or follow from a rule by hand,
and for each statement with hypotheses a state and operands that meet them, each clause at a boundary of its range. -/

namespace Sys2Proof.Tests

open Sys2Proof Sys2Proof.Machine

/-- The next state of an outcome. -/
def nextOf : Host.Outcome State Fault Refusal → Option State
  | .next t => some t
  | .fault _ => none
  | .refused _ => none

/-- What `f` reads in the state after a command. -/
def after {α : Type} (c : Instr) (s : State) (f : State → α) : Option α := (nextOf (exec c s)).map f

/-- The outcome and values of the answer held after a request. -/
def answerAfter (c : Instr) (s : State) : Option (OutcomeCode × List Byte) :=
  ((nextOf (exec c s)).bind (·.link.response)).map fun r => (r.answer.outcome, r.answer.values)

/-- A job of R 10,600 and W 200 with miss limit 3, as in the worked sequences: stations 0, 1 and 7, lanes 0 and 1, no embosser;
n_roll 15 of 7,500 mm. -/
def job21 : JobRecord :=
  { number := 21, pattern := [0x41], length := 10600, halfWindow := 200, missLimit := 3,
    stations := [⟨0, 0, 0, 0, 1⟩, ⟨1, 60000, 64, 4, 400⟩, ⟨7, 90000, 64, 4, 400⟩],
    lanes := ⟨true, true, false, false, false, false⟩, targetMm := 7500, cutPhase := 0, minRepeats := 10, excludeBefore := 1,
    excludeAfter := 3, emboss := none, registerMinSpeed := 500, recoverySpeed := 600, batchTolerance := 75, spreadLimit := 40,
    minSamples := 6, sampleInterval := 8, defectLimit := 4, batchBase := 41 }

/-- The job with an embosser: S 2, lift lead 3,000, emboss minimum speed 500. -/
def job21e : JobRecord := { job21 with emboss := some { settle := 2, lead := 3000, minSpeed := 500 } }

/-- A record of job 21 with everything pending. -/
def repeatAt (serial start : Nat) (length : Option Nat) : Repeat :=
  { serial := serial, start := start, length := length, job := 21, origin := .marked, changePoint := false, splice := false,
    excluded := false, designated := false, refResult := .matched 0, results := PerStation.tabulate fun _ => .pending,
    emboss := .pending, lanes := [⟨.l0, none, 0⟩, ⟨.l1, none, 0⟩] }

/-- Job 21 in the head slot, repeats 499 and 500 in the ring, the reference in a state with 500 the newest, at 5,300,000; the line
position and the high-water position at `t`. -/
def running (ref : RefState) (t : Nat) : State :=
  { State.reset with
    pos := { State.reset.pos with
      linePos := t, highWater := t, speed := 3000, nextSerial := 501,
      ref := { state := ref, newestStart := some 5300000, synthRun := if ref = .locked then 0 else 2, lastError := 0, strays := 12 } }
    map := { ring := [repeatAt 499 5289400 (some 10600), repeatAt 500 5300000 none], extent := 0, retired := 498, nipCursor := 501,
             knifeCursor := 499 }
    jobs := { State.reset.jobs with head := some { record := job21, firstSerial := 1 } }
    speed := { State.reset.speed with
      runSpeed := 3000, granted := if ref = .lost then 600 else 3000, active := if ref = .lost then some .ref else none,
      slots := if ref = .lost then State.reset.speed.slots.set .ref (some { level := 6, speed := 600 }) else State.reset.speed.slots } }

/-- `s` with job 22, of R 10,600 and recovery speed 500, armed. -/
def withArmed (s : State) : State :=
  s.withJobs { s.jobs with staged := some { record := { job21 with number := 22, recoverySpeed := 500 }, armed := true } }

/-- SEEKING with job 21 armed, at line position 5,300,000. -/
def seeking : State :=
  { State.reset with
    pos := { State.reset.pos with
      linePos := 5300000, highWater := 5300000, nextSerial := 2 ^ 32 - 2, ref := { RefRecord.reset with state := .seeking } }
    jobs := { State.reset.jobs with staged := some { record := job21, armed := true } } }

/-- Station 1 TRACKING at repeat 500, its window about 5,360,000; the line at `t`. -/
def tracking (t : Nat) : State :=
  let s := running .locked t
  { s with
    pos := { s.pos with ref := { s.pos.ref with state := .idle } }
    register := s.register.set .s1
      { StationRecord.off with
        state := .tracking, job := some 21, cursor := some 500, accumulator := -2560, trim := -10, trimSeq := 41,
        window := some { centre := 5360000, halfWidth := 200 } } }

/-! ### Well-formed commands -/

/-- The one check: a Load Job payload of 51 bytes or of 121 bytes is not one (R180). -/
theorem test_illFormed_loadJob_short : WellFormed (.loadJob .line 0 (List.replicate 51 0)) = false := by decide
theorem test_illFormed_loadJob_long : WellFormed (.loadJob .line 0 (List.replicate 121 0)) = false := by decide +kernel
theorem test_wellFormed_loadJob : WellFormed (.loadJob .line 0 (List.replicate 52 0)) = true := by decide

/-- The part answers it MALFORMED (R180 check 3). -/
theorem test_loadJob_short_malformed : answerAfter (.loadJob .line 0 (List.replicate 51 0)) State.reset = some (.malformed, []) := by decide +kernel

/-- No word spells a command: the table gives no bits. -/
theorem test_no_word_is_a_command : decodeTableWord 8 0x40 = none := by decide
theorem test_fetch_word_changes_nothing : State.reset.withFetchWord 8 0x40 = State.reset := by decide

/-! ### Arithmetic (conventions and worked cases) -/

/-- 62.5 rounds to 63 and -62.5 to -63 (conventions; a lightness sum of 250 over 4 samples). -/
theorem test_round_half_up : roundDiv 250 4 = 63 := by decide
theorem test_round_half_down : roundDiv (-250) 4 = -63 := by decide

/-- isqrt of 1,213 is 34 and of 113,200 is 336 (worked case: grading a roll). -/
theorem test_isqrt_spread : isqrt 1213 = 34 := by decide
theorem test_isqrt_distance : isqrt 113200 = 336 := by decide

/-- The generator from 1023: 1022, 1020, 1016, 1008, 992, 960, 896, 769 (R120). -/
theorem test_generator_eight_steps :
    ((List.range 8).foldl (fun acc _ => acc ++ [stepGenerator (acc.getLast?.getD 0)]) [(1023 : BitVec 10)]).map (·.toNat)
      = [1023, 1022, 1020, 1016, 1008, 992, 960, 896, 769] := by decide

/-- Worked cases: trim updates. -/
def stationAt (a t : Int) (seq : Nat) : StationRecord := { StationRecord.off with accumulator := a, trim := t, trimSeq := seq }
def trimOf (r : StationRecord) : Int × Int × Bool × Nat := (r.accumulator, r.trim, r.saturated, r.trimSeq)

/-- K 128, Db 2, C_max 300: e = +40 gives A -5,120 and T -20; e = +37 then -9,856 and -39; e = -2 nothing. -/
theorem test_trim_ordinary :
    trimOf (trimUpdate ⟨1, 0, 128, 2, 300⟩ 37 (trimUpdate ⟨1, 0, 128, 2, 300⟩ 40 (stationAt 0 0 0))) = (-9856, -39, false, 2) := by decide
theorem test_trim_deadband : trimUpdate ⟨1, 0, 128, 2, 300⟩ (-2) (stationAt (-9856) (-39) 2) = stationAt (-9856) (-39) 2 := by decide

/-- C_max 50: from A -12,800 the errors +120, +100, -60, -60, -60 end at A -6,144, T -24, SAT clear, sequence 10. -/
theorem test_trim_guard :
    trimOf ([120, 100].foldl (fun r e => trimUpdate ⟨1, 0, 128, 2, 50⟩ e r) (stationAt (-12800) (-50) 9)) = (-29184, -50, true, 9) := by decide
theorem test_trim_release :
    trimOf ([120, 100, -60, -60, -60].foldl (fun r e => trimUpdate ⟨1, 0, 128, 2, 50⟩ e r) (stationAt (-12800) (-50) 9))
      = (-6144, -24, false, 10) := by decide

/-- Into a job of C_max 10: A -18,944, T -10, SAT set, sequence 10 (R61). -/
theorem test_trim_reclamp : trimOf (publishTrim 10 (-29184) (stationAt (-29184) (-50) 9)) = (-18944, -10, true, 10) := by decide

/-- Worked examples: the job check. The ring bound at the geometry's reset values is 23; the shortest repeat fits D_cut 493,250 and
not 493,251. -/
theorem test_ring_bound : ringBound 200000 10600 200 (10600 - 200) = 23 := by decide
def shortJob : JobRecord := { job21 with length := 2000, halfWindow := 50, stations := [⟨0, 0, 0, 0, 1⟩] }
theorem test_job_check_shortest : jobCheck 493250 none shortJob = true := by decide
theorem test_job_check_too_far : jobCheck 493251 none shortJob = false := by decide

/-- 148,400 counts are 7,420 mm (worked sequence: a splice zone at the knife). -/
theorem test_millimetres : millimetres 148400 = 7420 := by decide

/-! ### The reference station (worked sequence: losing and regaining the reference) -/

/-- The mark at 5,310,650 creates 501 MARKED with error +50, and 500 has length 10,650. -/
theorem test_mark_in_window :
    after .referenceMark (running .locked 5310650) (fun t => (t.pos.ref.state, t.pos.ref.lastError)) = some (.locked, 50) := by decide
theorem test_mark_creates_repeat :
    after .referenceMark (running .locked 5310650) (fun t => t.map.ring.map fun r => (r.serial, r.start, r.length))
      = some [(499, 5289400, some 10600), (500, 5300000, some 10650), (501, 5310650, none)] := by decide

/-- A mark below the window is a stray: the count is 13. -/
theorem test_mark_stray : after .referenceMark (running .locked 5310399) (fun t => t.pos.ref.strays) = some 13 := by decide

/-- The edge onto the window end 5,310,800 creates 501 SYNTH at 5,310,600: COASTING, synth run 1. -/
theorem test_window_end :
    after (.encoderEdge (.onA true false)) (running .locked 5310799)
        (fun t => (t.pos.linePos, t.pos.ref.state, t.pos.ref.synthRun)) = some (5310800, .coasting, 1) := by decide
theorem test_window_end_creates_repeat :
    after (.encoderEdge (.onA true false)) (running .locked 5310799)
        (fun t => t.map.ring.getLast?.map fun r => (r.serial, r.start, r.origin)) = some (some (501, 5310600, .synth)) := by decide

/-- The third SYNTH repeat in a row enters LOST: REF claim at level 6 and speed 600, REF_LOST and CLAIM_CHANGE raised. -/
theorem test_reference_lost :
    after (.encoderEdge (.onA true false)) (running .coasting 5310799)
        (fun t => (t.pos.ref.state, t.speed.granted, pendingCount .plant .refLost t, pendingCount .plant .claimChange t))
      = some (.lost, 600, 1, 1) := by decide

/-- 13,334 counts in an interval give 4000, the limit; 13,333 give 3999 (R3). -/
theorem test_speed_limit : speedOf 13334 = 4000 ∧ speedOf 13333 = 3999 := by decide
theorem test_interval :
    after .intervalTimer (running .locked 5300000) (fun t => (t.pos.speed, t.pos.intervalStart)) = some (4000, 5300000) := by decide

/-- A reverse edge at 0 and a transition of both signals leave the line position (R1). -/
theorem test_edge_at_zero : after (.encoderEdge (.onA true true)) State.reset (·.pos.linePos) = some 0 := by decide
theorem test_edge_together : after (.encoderEdge .together) (running .locked 5300000) (·.pos.linePos) = some 5300000 := by decide

/-- A first mark on web backed up by 24,000 counts: the window ends at 11,800 and 22,400 have been reached already, so two SYNTH
repeats follow in the same step (R2, R9). -/
theorem test_mark_on_backed_up_web :
    after .referenceMark (seeking.withPos { seeking.pos with linePos := 1000, highWater := 25000, nextSerial := 1 })
        (fun t => (t.pos.ref.state, t.map.ring.map fun r => (r.serial, r.start)))
      = some (.coasting, [(1, 1000), (2, 11600), (3, 22200)]) := by decide

/-! ### Splices, stations, knife -/

/-- The first splice position ahead of the ring is listed (R13). -/
theorem test_splice_listed : after .spliceEdge (running .locked 5300000) (·.pos.splices) = some [5300000] := by decide

/-- With b 1 and a 3, a splice in 499 excludes 499 and 500 and sets the extent to 502 (R16). -/
theorem test_splice_flagged :
    after .spliceEdge (running .locked 5290000) (fun t => (t.map.ring.map fun r => (r.serial, r.splice, r.excluded), t.map.extent))
      = some ([(499, true, true), (500, false, true)], 502) := by decide

/-- The mark at 60,030 past the start of 500 is MATCHED +30: A -4,480, T -18, sequence 42 (worked sequence: holding, losing and
recovering a station). -/
theorem test_station_match :
    after (.stationMark .s1) (tracking 5360030) (fun t => (trimOf (t.register.get .s1), (t.register.get .s1).lastError))
      = some ((-4480, -18, false, 42), 30) := by decide
theorem test_station_stray : after (.stationMark .s1) (tracking 5359500) (fun t => (t.register.get .s1).strayCount) = some 1 := by decide

/-- The window end 5,360,200 missed: HOLDING, miss run 1. -/
theorem test_station_miss :
    after (.encoderEdge (.onA true false)) (tracking 5360199) (fun t => ((t.register.get .s1).state, (t.register.get .s1).missRun))
      = some (.holding, 1) := by decide

/-- Lane 0 WINDING with two repeats folded, and the knife registered at the boundary of 500. -/
def atKnife : State :=
  let s := running .locked 5499999
  { s with
    pos := { s.pos with ref := { s.pos.ref with state := .idle } }
    rolls := { s.rolls with
      knifeJob := some { number := 21, lanes := job21.lanes, standardRepeats := 15, minRepeats := 10 }
      knifeReg := some { position := 5500000, kind := .successorBoundary }
      lanes := s.rolls.lanes.set .l0
        { LaneRecord.idle none none with
          state := .winding
          roll := { OpenRoll.empty (some 21) with
            rollId := some 7, firstSerial := some 497, lastSerial := some 498, repeats := 2, length := 21200 } } } }

/-- The knife crossing folds 499 and retires it (R97, R98, R31). -/
theorem test_knife_fold :
    after (.encoderEdge (.onA true false)) atKnife
        (fun t => ((t.rolls.lanes.get .l0).roll.repeats, (t.rolls.lanes.get .l0).roll.length, t.map.retired, t.map.knifeCursor))
      = some (3, 31800, 499, 500) := by decide

/-- With n_roll 3 the same fold cuts the lane: STANDARD, reason LENGTH, strobed (R101 to R103). -/
def atCut : State :=
  { atKnife with
    rolls := { atKnife.rolls with knifeJob := some { number := 21, lanes := job21.lanes, standardRepeats := 3, minRepeats := 2 } } }
theorem test_knife_cut :
    after (.encoderEdge (.onA true false)) atCut
        (fun t => (t.rolls.history.map fun e => (e.rollId, e.kind, e.reason, e.lengthMm), t.pins.knives.get .l0, t.labels.queue.length))
      = some ([(7, .standard, .length, 1590)], true, 1) := by decide
theorem test_strobe_end :
    after (.strobeEnd .l0) (atCut.withPins { atCut.pins with knives := atCut.pins.knives.set .l0 true }) (·.pins.knives.get .l0)
      = some false := by decide

/-! ### Grading (worked case: grading a roll) -/

/-- Roll 1204 as it closes. -/
def roll1204 : HistoryEntry :=
  { rollId := 1204, lane := .l3, job := 21, firstSerial := 480, lastSerial := 494, repeats := 15, lengthCounts := 159000,
    lengthMm := 7950, kind := .standard, reason := .length, samples := 9, sums := ⟨1107, -406, 2790⟩,
    minimum := some ⟨110, -52, 298⟩, maximum := some ⟨131, -38, 322⟩, missed := 0, defects := 0, plain := 0, excluded := 0,
    carriesPrior := false, grade := .reject, means := none, spread := none, batch := none, stamp := none, labelState := .missed,
    pattern := [] }

def batch41 : BatchEntry :=
  { number := 41, job := 21, centre := ⟨100, -20, 250⟩, rolls := 5, totalMm := 40000, state := .opened, stamp := 516 }
def batch42 : BatchEntry :=
  { number := 42, job := 21, centre := ⟨140, -60, 300⟩, rolls := 11, totalMm := 81960, state := .opened, stamp := 517 }

/-- The table with batches 41 and 42, the counter at 43. -/
def graded : State :=
  let s := running .locked 5300000
  s.withShade { s.shade with headCounter := some 43, nextStamp := 518, batches := [batch41, batch42] }

theorem test_grade_worked :
    (let g := gradeRoll roll1204 graded
     (g.1.means, g.1.spread, g.1.grade, g.1.batch, g.1.stamp)) = (some ⟨123, -45, 310⟩, some 34, .a, some 42, some 517) := by decide
theorem test_grade_distances : batchDistance ⟨123, -45, 310⟩ batch41 = 68 ∧ batchDistance ⟨123, -45, 310⟩ batch42 = 24 := by decide

/-- Means 0, 0, 0: no candidate, so batch 43 opens and the counter becomes 44. -/
theorem test_grade_new_batch :
    (let g := gradeRoll { roll1204 with sums := ⟨0, 0, 0⟩ } graded
     (g.1.batch, g.2.shade.headCounter, g.2.shade.batches.length)) = (some 43, some 44, 3) := by decide

/-! ### Claims (worked sequence: claims across a reference loss) -/

/-- PLANT and QUALITY have claimed at level 2: 2,500 and 1,800, PLANT first; the gate as given. -/
def claimed (gate : Bool) (active : Option Slot) (granted : Nat) : State :=
  State.reset.withSpeed
    { slots := (State.reset.speed.slots.set .m6 (some { level := 2, speed := 2500 })).set .m3 (some { level := 2, speed := 1800 }),
      runSpeed := 3000, crawlSpeed := 100, gateOpen := gate, active := active, granted := granted }

/-- QUALITY's claim at an equal level is HELD (2): level 2, speed 1,800; PLANT stays ACTIVE with 2,500. -/
theorem test_claim_held :
    answerAfter (.claim .quality 0 2 1800)
        (State.reset.withSpeed { (claimed true (some .m6) 2500).speed with slots := State.reset.speed.slots.set .m6 (some { level := 2, speed := 2500 }) })
      = some (.ok, [2, 2, 0x07, 0x08, 1, 9, 0x09, 0xC4]) := by decide

/-- At the gate's opening with no claim ACTIVE, master 3 comes first: granted 1,800. -/
theorem test_gate_opening :
    after (.setClaimGate .line 0 1) (claimed false none 3000) (fun t => (t.speed.active, t.speed.granted, pendingCount .plant .claimChange t))
      = some (some .m3, 1800, 1) := by decide
theorem test_set_run_speed :
    after (.setRunSpeed .line 0 1500 100) (claimed true (some .m3) 1800) (fun t => (t.speed.active, t.speed.granted)) = some (some .m3, 1500) := by decide
theorem test_release :
    after (.release .quality 0) (State.reset.withSpeed { (claimed true (some .m3) 1500).speed with runSpeed := 1500 })
        (fun t => (t.speed.active, t.speed.granted, pendingCount .plant .claimChange t))
      = some (some .m6, 1500, 0) := by decide

/-! ### Jobs -/

/-- A Load Job payload of one station without an embosser: job 5, R 10,600, W 200, 7,500 mm. -/
def payload (length : Nat) : List Byte :=
  bytesOf 2 5 ++ (0x41 :: List.replicate 11 0) ++ bytesOf 2 length ++ bytesOf 2 200 ++ [3, 1, 0x03] ++ bytesOf 2 7500 ++ bytesOf 2 0
    ++ bytesOf 2 10 ++ [1, 3, 0] ++ bytesOf 2 500 ++ bytesOf 2 600 ++ bytesOf 2 75 ++ bytesOf 2 40 ++ [6, 8, 4] ++ bytesOf 2 41
    ++ [0, 0, 0, 0, 0, 0, 0] ++ bytesOf 2 1

/-- n_roll is 7,500 x 20 / 10,600 rounded up, 15 (R43). -/
theorem test_load_job : answerAfter (.loadJob .line 0 (payload 10600)) State.reset = some (.ok, [0, 15]) := by decide

/-- A repeat length of 1,999 is BAD_VALUE of field 3, no station (R42, R43). -/
theorem test_load_job_bad_field : answerAfter (.loadJob .line 0 (payload 1999)) State.reset = some (.badValue, [3, 0, 0]) := by decide

/-- `running` with job 22 staged, not armed. -/
def staged : State :=
  let s := running .locked 5300000
  s.withJobs { s.jobs with staged := some { record := { job21 with number := 22 }, armed := false } }

/-- Arm Job answers the ring bound 23 (worked example: the job check). -/
theorem test_arm_job : answerAfter (.armJob .line 0) staged = some (.ok, [0, 23]) := by decide

/-- End Job answers form 2: job 21, last serial 500, final boundary 5,310,600 (R49, R50). -/
theorem test_end_job :
    answerAfter (.endJob .line 0) staged
      = some (.ok, [2, 0, 21, 0, 0, 0x01, 0xF4, 0, 0, 0, 0x51, 0x08, 0x88]) := by decide

/-- Line Reset with one open roll closes it (R54, R118). -/
theorem test_line_reset :
    after (.lineReset .line 0) atKnife (fun t => (t.map.ring.length, t.rolls.history.map fun e => (e.kind, e.reason), t.rolls.knifeJob.isNone))
      = some (0, [(.scrap, .lineReset)], true) := by decide

/-! ### The link (worked example: one Read Repeat on the wire) -/

/-- The request frame at 0x43 holds 0x43, 0x03, 0x02, 0x5A, 0x04 and the serial 605, and two CRC bytes: 11 bytes. -/
def readRepeatFrame : List Byte := requestFrame 0x43 .quality 0x5A (.readRepeat 605)
theorem test_read_repeat_frame :
    readRepeatFrame.take 9 = [0x43, 0x03, 0x02, 0x5A, 0x04, 0x00, 0x00, 0x02, 0x5D] ∧ readRepeatFrame.length = 11 := by decide

/-- Repeat 605 of job 13 as the example gives it: six lanes, a sample on lane 2, designated, its successor created. -/
def repeat605 : Repeat :=
  { repeatAt 605 6413000 (some 10600) with
    job := 13, designated := true, results := { (PerStation.tabulate fun _ => StationResult.matched 1) with s7 := .pending },
    lanes := allLanes.map fun l => { lane := l, sample := if l = .l2 then some { shade := ⟨1, 2, 3⟩, clamped := false } else none, defects := 0 } }

def at605 : State :=
  let s := State.reset.withMap { ring := [repeat605], extent := 0, retired := 604, nipCursor := 605, knifeCursor := 605 }
  s.withLink { s.link with address := 0x43 }

/-- The answer is 97 bytes with flags 0x30; the one segment begins 0xC3, 0x03, 0x02, 0x5A, 99, outcome 0x00, segment byte 0x80. -/
theorem test_read_repeat_answer : (repeatBytes repeat605).length = 97 ∧ (repeatBytes repeat605)[16]? = some 0x30 := by decide
theorem test_read_repeat_segment :
    (((nextOf (exec .endDelimiter (receiving readRepeatFrame at605))).bind (·.link.response)).map
        fun r => (segmentCount r.answer, (segmentFrame 0x43 r 0).take 7, (segmentFrame 0x43 r 0).length))
      = some (1, [0xC3, 0x03, 0x02, 0x5A, 99, 0x00, 0x80], 106) := by decide +kernel

/-- After the fold it is NOT_FOUND, and its segment carries two payload bytes, 0x08 and 0x80. -/
theorem test_read_repeat_not_found :
    (((nextOf (exec .endDelimiter (receiving readRepeatFrame (at605.withMap { at605.map with ring := [], retired := 605 })))).bind (·.link.response)).map
        fun r => (segmentFrame 0x43 r 0).take 7)
      = some [0xC3, 0x03, 0x02, 0x5A, 2, 0x08, 0x80] := by decide +kernel

/-- A frame with one bit of the tag changed fails the CRC (R176). -/
theorem test_crc_discard :
    after .endDelimiter (receiving (readRepeatFrame.set 3 0x5B) at605) (fun t => (t.link.lastReason, t.link.discards, t.link.state))
      = some (.crc, 1, .listening) := by decide +kernel

/-- Reads of the worked sequences' kind: notices of LINE after a first mark, in ascending number with counts (R185). -/
theorem test_read_notices :
    ((nextOf (exec .referenceMark seeking)).bind fun s => answerAfter (.readNotices .line 0) s) = some (.ok, [0, 1, 3, 1]) := by decide

/-! ### Witnesses: states and operands that meet the hypotheses of each statement, at the boundaries of its clauses -/

/-- Every statement about a request with no other hypothesis: the part right after reset is ready. -/
theorem witness_ready : Ready State.reset := by unfold Ready; decide
theorem witness_ready_running : Ready (running .locked 5300000) ∧ Ready (running .lost 5300000) ∧ Ready staged := by unfold Ready; decide

theorem witness_StepTakesFrontCommand :
    (State.reset.withPending [.intervalTimer]).pending = .intervalTimer :: [] ∧ State.reset.pending = [] := by decide

/-- At both ends of the range, at an edge that reaches nothing registered, and at the last count before a registered position. -/
def atTop : State :=
  State.reset.withPos { State.reset.pos with linePos := 2 ^ 48 - 1, highWater := 2 ^ 48 - 1 }
theorem witness_EncoderEdgeMovesPositions :
    (PositionSound State.reset ∧ PositionSound atTop ∧ PositionSound (running .locked 5310798))
      ∧ (∀ c ∈ registered (running .locked 5310798), ((running .locked 5310798).pos.highWater : Int) + 1 < c.1)
      ∧ ¬(∀ c ∈ registered (running .locked 5310799), ((running .locked 5310799).pos.highWater : Int) + 1 < c.1)
      ∧ inputWaits (running .locked 5310799) = false := by
  unfold PositionSound; decide
/-- One crossing due, at the position itself; and nothing due one count before it. -/
theorem witness_EncoderEdgeMovesPositions_due :
    (5310800, Crossing.refWindowEnd) ∈ registered (running .locked 5310800)
      ∧ (registered (running .locked 5310800)).count (5310800, Crossing.refWindowEnd) = 1
      ∧ (registered (running .locked 5310800)).length = 1
      ∧ (∀ c ∈ registered (running .locked 5310799), ((running .locked 5310799).pos.highWater : Int) < c.1) := by decide

/-- Without an emboss part, and with one whose minimum the new speed meets exactly and misses by one. -/
def embossing (minSpeed : Nat) : State :=
  State.reset.withEmboss { EmbossUnit.reset with state := .engaged, nipJob := some 21, part := some { settle := 2, minSpeed := minSpeed } }
theorem witness_IntervalTimerSetsSpeed :
    State.reset.pins.resetLow = false ∧ State.reset.model.embossNoticed = false ∧ (embossing 0).model.embossNoticed = false
      ∧ after .intervalTimer (embossing 0) (·.emboss.state) = some .engaged
      ∧ after .intervalTimer (embossing 1) (·.emboss.state) = some .lifted := by decide

theorem witness_StrobeEndLowersKnife : State.reset.pins.resetLow = false := by decide

/-- IDLE; one count below the window, and (with the high-water position still below its end) one count above it. -/
def abovePos : State :=
  (running .locked 5310799).withPos { (running .locked 5310799).pos with linePos := 5310801 }
theorem witness_ReferenceMarkIgnoredOrStray :
    (Settled State.reset ∧ State.reset.pos.ref.state = .idle)
      ∧ (Settled (running .locked 5310399) ∧ creatingJob (running .locked 5310399) = some job21
          ∧ (running .locked 5310399).pos.linePos + job21.halfWindow < 5300000 + job21.length)
      ∧ (Settled abovePos ∧ creatingJob abovePos = some job21 ∧ 5300000 + job21.length + job21.halfWindow < abovePos.pos.linePos) := by
  unfold Settled; decide
theorem witness_ReferenceRuns : ReferenceRuns (running .locked 0) ∧ ReferenceRuns (running .coasting 0) ∧ ReferenceRuns (running .lost 0) := by
  unfold ReferenceRuns; decide

theorem witness_FirstMarkCreatesRepeat :
    seeking.pins.resetLow = false ∧ seeking.pos.ref.state = .seeking ∧ armedJob seeking = some job21
      ∧ seeking.pos.nextSerial < 2 ^ 32 - 1 ∧ seeking.map.ring = [] ∧ seeking.jobs.tail = none
      ∧ seeking.pos.highWater < seeking.pos.linePos + job21.length + job21.halfWindow := by decide
/-- The stations of the first repeat: 1 ARMED with its window at 60,000 ± 200, 2 OFF and SKIPPED; the interval starts (R22, R60,
R63, R121). -/
theorem witness_StationsMeet :
    GoodLengths job21 ∧ seeking.pos.highWater ≤ seeking.pos.linePos
      ∧ seeking.pos.highWater < seeking.pos.linePos + seeking.jobs.geometry.eNip
      ∧ after .referenceMark seeking
          (fun t => ((t.register.get .s1).state, (t.register.get .s1).window, (t.register.get .s2).state))
        = some (.armed, some { centre := 5360000, halfWidth := 200 }, .off)
      ∧ after .referenceMark seeking (fun t => t.map.ring.map fun r => (r.results.get .s1, r.results.get .s2))
        = some [(.pending, .skipped)]
      ∧ after .referenceMark seeking (fun t => (t.shade.generator, t.jobs.head.isSome)) = some (1022, true) := by
  unfold GoodLengths; decide

/-- At both ends of the window, in LOCKED and in LOST, with and without an armed job. -/
theorem witness_MarkInWindowCreatesRepeat :
    ((running .locked 5310400).pos.linePos + job21.halfWindow = 5300000 + job21.length
        ∧ (running .lost 5310800).pos.linePos = 5300000 + job21.length + job21.halfWindow)
      ∧ creatingJob (running .lost 5310800) = some job21
      ∧ creatingJob (withArmed (running .locked 5310400)) = some { job21 with number := 22, recoverySpeed := 500 }
      ∧ (running .lost 5310800).pos.ref.newestStart = some 5300000
      ∧ (running .lost 5310800).map.ring.getLast? = some (repeatAt 500 5300000 none)
      ∧ CreationAheadOfKnife (running .lost 5310800) job21 5310800
      ∧ CreationAheadOfKnife (withArmed (running .locked 5310400)) { job21 with number := 22, recoverySpeed := 500 } 5310400 := by
  refine ⟨by decide, by decide, by decide, by decide, by decide, ⟨by decide, ?_, by decide⟩, ⟨by decide, ?_, by decide⟩⟩
  · intro t h; exact nomatch h
  · intro t h; exact nomatch h

/-- A splice position in the span that the mark completes is resolved: 500 is flagged with its zone, and the new repeat lies in the
extent, as does the next, its zone being 499 to 503 (R15 to R17). -/
theorem test_creation_resolves_splice :
    after .referenceMark ((running .locked 5310400).withPos { (running .locked 5310400).pos with splices := [5310399, 5310400] })
        (fun t => (t.map.ring.map fun r => (r.serial, r.splice, r.excluded), t.map.extent, t.pos.splices))
      = some ([(499, false, true), (500, true, true), (501, false, true)], 503, [5310400]) := by decide

/-- A mark taken before the window end at the same position: MARKED with error W, and no SYNTH repeat follows (R8). -/
theorem test_mark_at_window_end :
    after .referenceMark (running .locked 5310800) (fun t => (t.pos.ref.lastError, t.map.ring.map fun r => (r.serial, r.origin)))
      = some (200, [(499, .marked), (500, .marked), (501, .marked)]) := by decide

/-- The run below the miss limit, the run that reaches it, and LOST with and without an armed job. -/
theorem witness_WindowEndCreatesSynth :
    min 255 ((running .locked 5310800).pos.ref.synthRun + 1) < job21.missLimit
      ∧ min 255 ((running .coasting 5310800).pos.ref.synthRun + 1) = job21.missLimit
      ∧ creatingJob (running .locked 5310800) = some job21
      ∧ (armedJob (running .lost 5310800)) = none ∧ (armedJob (withArmed (running .lost 5310800))).isSome = true
      ∧ (running .lost 5310800).pos.ref.newestStart = some 5300000 ∧ CreationAheadOfKnife (running .lost 5310800) job21 5310600 := by
  refine ⟨by decide, by decide, by decide, by decide, by decide, by decide, by decide, ?_, by decide⟩
  intro t h; exact nomatch h
/-- Web backed up past the knife: 500 is the one record, the line position stands at 5,310,800 and the high-water position at `hw`,
with lane 0 winding; the knife boundary of a SYNTH repeat is 5,510,600, of a MARKED one 5,510,800. -/
def backedUp (hw : Nat) : State :=
  let s := running .lost 5310800
  { s with
    pos := { s.pos with highWater := hw }
    map := { s.map with ring := [repeatAt 500 5300000 none], retired := 499, knifeCursor := 500 }
    rolls := { atKnife.rolls with knifeReg := none } }
theorem witness_creation_past_knife :
    CreationReachesKnife (backedUp 5510600) job21 5310600 (repeatAt 500 5300000 none)
      ∧ CreationReachesKnife (backedUp 5510800) job21 5310800 (repeatAt 500 5300000 none)
      ∧ CreationAheadOfKnife (backedUp 5510599) job21 5310600 ∧ creatingJob (backedUp 5510600) = some job21 := by
  refine ⟨⟨by decide, by decide, by decide, fun t h => (nomatch h), by decide⟩, ⟨by decide, by decide, by decide, fun t h => (nomatch h), by decide⟩,
    ⟨by decide, fun t h => (nomatch h), by decide⟩, by decide⟩
/-- The knife acts on 500 at the creation of 501, one count further and not before (R2, R96). -/
theorem test_creation_past_knife :
    ([backedUp 5510600, backedUp 5510599].map fun s =>
        let t := refWindowEnd s
        (t.map.retired, t.map.ring.map (·.serial), (t.rolls.lanes.get .l0).roll.repeats))
      = [(500, [501], 3), (499, [500, 501], 2)] := by decide
/-- A station that starts at a SYNTH change point skips it (R60, R64). -/
theorem test_synth_start :
    after (.encoderEdge (.onA true false)) (withArmed (running .locked 5310799))
        (fun t => ((t.register.get .s1).cursor, t.map.ring.map fun r => (r.job, r.changePoint, r.results.get .s1)))
      = some (some 502, [(21, false, .pending), (21, false, .pending), (22, true, .skipped)]) := by decide

/-- `running` with splice positions listed and a line position. -/
def withSplices (l : List Nat) (t : Nat) : State :=
  (running .locked 5300000).withPos { (running .locked 5300000).pos with linePos := t, splices := l }
def flaggedRing : State :=
  (running .locked 5299999).withMap { (running .locked 5299999).map with
    ring := [{ repeatAt 499 5289400 (some 10600) with splice := true }, repeatAt 500 5300000 none] }
theorem witness_SpliceEdgeEntersList :
    (Settled State.reset ∧ State.reset.jobs.head = none)
      ∧ (Settled flaggedRing ∧ (flaggedRing.map.ring.find? (inSpan flaggedRing.pos.linePos)).map (·.splice) = some true)
      ∧ (Settled (withSplices [] 5289399) ∧ ∀ r ∈ (withSplices [] 5289399).map.ring, inSpan 5289399 r = false)
      ∧ ((oldestRepeat (withSplices [] 5289399)).map (·.start) = some 5289400)
      ∧ (Settled (withSplices [5300000] 5300000) ∧ ∀ r ∈ (withSplices [] 5300000).map.ring, inSpan 5300000 r = false)
      ∧ (withSplices [1, 2, 3] 5300000).pos.splices.length < 4 ∧ 4 ≤ (withSplices [1, 2, 3, 4] 5300000).pos.splices.length
      ∧ Settled (withSplices [1, 2, 3, 4] 5300000) := by
  unfold Settled; decide

/-- The first and the last position of the span of 499. -/
theorem witness_SpliceEdgeFlagsRepeat :
    (running .locked 5289400).map.ring.find? (inSpan 5289400) = some (repeatAt 499 5289400 (some 10600))
      ∧ (running .locked 5299999).map.ring.find? (inSpan 5299999) = some (repeatAt 499 5289400 (some 10600))
      ∧ (running .locked 5299999).jobs.head.isSome = true ∧ jobOf 21 (running .locked 5299999) = some job21 := by decide

/-- Job 21 with its embosser, ENGAGED at the measured speed 3,000; the nip, here 10,000 from the head, passes the start of 499 at
5,299,400, so its lift starts at 5,296,400 and ends at 5,310,000. The list holds `lifts`; the high-water position is `t`. -/
def splicing (t : Nat) (lifts : List SpliceLift) : State :=
  let s := running .locked 5289400
  { s with
    pos := { s.pos with highWater := t }
    jobs := { s.jobs with geometry := { s.jobs.geometry with eNip := 10000 }, head := some { record := job21e, firstSerial := 1 } }
    emboss := { EmbossUnit.reset with
      state := .engaged, nipJob := some 21, part := some { settle := 2, minSpeed := 500 }, lifts := lifts } }
def eightLifts : List SpliceLift :=
  (List.range 8).map fun i => { serial := 480 + i, startPos := 5299000 + i, endPos := 5300000 + i, state := .pending }

/-- The lift is PENDING one count before its start and IN_FORCE at once at it, with one EMBOSS_CHANGE; it is not placed at its end;
into a full list it is merged with the newest entry (R88). -/
theorem witness_SpliceEdgeFlagsRepeat_lift :
    liftPlaced (repeatAt 499 5289400 (some 10600)) 10600 3000 (splicing 5296399 []) = ⟨499, 5296400, 5310000, .pending⟩
      ∧ liftPlaced (repeatAt 499 5289400 (some 10600)) 10600 3000 (splicing 5296400 []) = ⟨499, 5296400, 5310000, .inForce⟩
      ∧ after .spliceEdge (splicing 5296400 []) (fun t => (t.emboss.state, pendingCount .line .embossChange t)) = some (.lifted, 1)
      ∧ after .spliceEdge (splicing 5310000 []) (fun t => (t.emboss.state, t.emboss.lifts)) = some (.engaged, [])
      ∧ after .spliceEdge (splicing 5290000 eightLifts) (fun t => t.emboss.lifts.getLast?) = some (some ⟨487, 5296400, 5310000, .pending⟩) := by
  decide

/-- Station 1 in its window at 498, the splice edge in the span of 499, and a zone that begins `before` repeats ahead of it. -/
def atSplice (before : Nat) : State :=
  let s := tracking 5289500
  { s with
    map := { s.map with ring := repeatAt 498 5278800 (some 10600) :: s.map.ring, retired := 497, knifeCursor := 498 }
    jobs := { s.jobs with head := some { record := { job21 with excludeBefore := before }, firstSerial := 1 } }
    register := s.register.set .s1
      { s.register.get .s1 with cursor := some 498, window := some { centre := 5338800, halfWidth := 200 } } }
/-- The zone takes in 498 or begins behind it: the station skips 498 and what follows, or stays in its window; a station at the newest
record waits at the serial after it (R64). -/
theorem witness_SpliceEdgeFlagsRepeat_stations :
    ([atSplice 1, atSplice 0].map fun s =>
        after .spliceEdge s (fun t => ((t.register.get .s1).cursor, (t.register.get .s1).window.isSome, t.map.ring.map (·.results.get .s1))))
        = [some (some 501, false, [.skipped, .skipped, .skipped]), some (some 498, true, [.pending, .pending, .pending])]
      ∧ findRepeat 501 (tracking 5289500) = none
      ∧ after .spliceEdge (tracking 5289500) (fun t => t.register.get .s1)
        = some { (tracking 5289500).register.get .s1 with cursor := some 501, window := none, deferredMiss := false } := by
  decide

/-- OFF; waiting; station 7 before the emboss status; one count outside the window on both sides. -/
def waiting : State :=
  let s := tracking 5360000
  s.withRegister (s.register.set .s1 { s.register.get .s1 with cursor := some 501, window := none })
def station7Early : State :=
  let s := tracking 5360000
  s.withRegister (s.register.set .s7 { StationRecord.off with state := .tracking, job := some 21, cursor := some 500 })
theorem witness_StationMarkStray :
    (Settled (tracking 5359799) ∧ (tracking 5359799).pos.linePos + 200 < 5360000)
      ∧ (Settled (tracking 5360000) ∧ ((tracking 5360000).register.get .s2).state = .off)
      ∧ (Settled waiting ∧ cursorRepeat .s1 waiting = none)
      ∧ (Settled station7Early ∧ (cursorRepeat .s7 station7Early).map (·.emboss) = some .pending) := by
  unfold Settled; decide
def aboveWindow : State :=
  (tracking 5360199).withPos { (tracking 5360199).pos with linePos := 5360201 }
theorem witness_StationMarkStray_above : Settled aboveWindow ∧ 5360000 + 200 < aboveWindow.pos.linePos := by unfold Settled; decide

/-- At both ends of the window. -/
theorem witness_StationMarkMatches :
    (tracking 5359800).pos.linePos + 200 = 5360000 ∧ (tracking 5360200).pos.linePos = 5360000 + 200
      ∧ ((tracking 5360200).register.get .s1).state ≠ .off ∧ cursorRepeat .s1 (tracking 5360200) = some (repeatAt 500 5300000 none)
      ∧ stationJob .s1 (tracking 5360200) = some job21 ∧ job21.entry .s1 = some ⟨1, 60000, 64, 4, 400⟩
      ∧ (tracking 5360200).model.embossNoticed = false ∧ findRepeat 501 (tracking 5360200) = none := by decide

/-- The same state, and HOLDING with the miss run one below the limit. -/
def holding : State :=
  let s := tracking 5360200
  s.withRegister (s.register.set .s1 { s.register.get .s1 with state := .holding, missRun := 2 })
theorem witness_StationMissMovesState :
    cursorRepeat .s1 holding = some (repeatAt 500 5300000 none) ∧ stationJob .s1 holding = some job21
      ∧ min 255 ((holding.register.get .s1).missRun + 1) = job21.missLimit ∧ (holding.register.get .s1).state = .holding
      ∧ cursorRepeat .s1 waiting = none ∧ cursorRepeat .s7 station7Early = some (repeatAt 500 5300000 none) := by decide

/-- The head job 22 begins at the change point 500, and 499 is the last record of the tail job 21. -/
def changing : State :=
  let s := running .locked 5499999
  { s with
    pos := { s.pos with ref := { s.pos.ref with state := .idle } }
    map := { s.map with ring := [repeatAt 499 5289400 (some 10600), { repeatAt 500 5300000 none with job := 22, changePoint := true }] }
    jobs := { s.jobs with
      head := some { record := { job21 with number := 22, missLimit := 2, stations := [⟨0, 0, 0, 0, 1⟩, ⟨1, 60000, 64, 4, 10⟩] }, firstSerial := 500 }
      tail := some { record := job21, firstSerial := 1, lastSerial := 499, finalBoundary := none } } }
/-- A station of job 21 with its cursor at 500. -/
def arriving (state : StationState) (missRun : Nat) : State :=
  { changing with
    pos := { changing.pos with linePos := 5300000, highWater := 5300000 }
    register := (changing.register.set .s1
      { stationAt (-29184) (-50) 9 with state := state, job := some 21, cursor := some 500, missRun := missRun }).set .s7
      { StationRecord.off with state := .tracking, job := some 21, cursor := some 500 } }
/-- At the change point station 1 carries over, clamped to C_max 10, and with the new limit 2 reached is LOST; station 7, which job 22
does not list, goes OFF (R61, R62). -/
theorem witness_StationMissMovesState_switch :
    (cursorRepeat .s1 (arriving .holding 2)).map (·.job) = some 22 ∧ ((arriving .holding 2).register.get .s1).job = some 21
      ∧ (let r := (restStation .s1 (arriving .holding 1)).register.get .s1
         (trimOf r, r.state, r.job)) = ((-18944, -10, true, 10), .holding, some 22)
      ∧ (let t := restStation .s1 (arriving .holding 2)
         ((t.register.get .s1).state, t.speed.slots.get .reg)) = (.lost, some { level := 5, speed := 600 })
      ∧ (restStation .s7 (arriving .holding 2)).register.get .s7 = StationRecord.off := by decide

/-- Station 1 at 499 with the high-water position at `t` and no window: its window end is 5,349,600. -/
def placing (t : Nat) (rec : Repeat) : State :=
  let s := tracking t
  { s with
    map := { s.map with ring := [rec, repeatAt 500 5300000 none] }
    register := s.register.set .s1 { s.register.get .s1 with cursor := some 499, window := none } }
/-- A decided record is passed; an excluded one is skipped; a window is placed one count before its end, and a window end that is
passed already is missed at once (R29, R63, R64, R69). -/
theorem witness_StationMissMovesState_rest :
    (let at499 := repeatAt 499 5289400 (some 10600)
     [placing 5349600 { at499 with results := at499.results.set .s1 (.matched 0) }, placing 5349600 { at499 with excluded := true },
      placing 5349599 at499, placing 5349600 at499].map fun s =>
        let t := restStation .s1 s
        ((t.register.get .s1).cursor, t.map.ring.map fun r => r.results.get .s1))
      = [(some 500, [.matched 0, .pending]), (some 500, [.skipped, .pending]), (some 499, [.pending, .pending]),
         (some 500, [.missed, .pending])] := by decide
/-- Station 7 defers the miss while the emboss status is PENDING (R65). -/
theorem test_station7_defers :
    (let s := placing 5379600 (repeatAt 499 5289400 (some 10600))
     (restStation .s7 (s.withRegister (s.register.set .s7 { StationRecord.off with state := .tracking, job := some 21, cursor := some 499 }))).register.get .s7)
      = { StationRecord.off with
          state := .tracking, job := some 21, cursor := some 499, window := some { centre := 5379400, halfWidth := 200 },
          deferredMiss := true } := by decide
theorem test_station_lost : (stationWindowEnd .s1 holding).register.get .s1 = { holding.register.get .s1 with
    state := .lost, missRun := 3, missCount := 1, cursor := some 501, window := none } := by decide

/-- An error at the deadband and one above it. -/
theorem witness_TrimUpdateArithmetic : (2 : Int).natAbs ≤ 2 ∧ 2 < (-3 : Int).natAbs := by decide

/-- The nip at 500 while SETTLING with one record to go; the next record is not created. -/
def nipping (count : Nat) : State :=
  let s := running .locked 5400000
  { s with
    jobs := { s.jobs with head := some { record := job21e, firstSerial := 1 } }
    map := { s.map with nipCursor := 500 }
    emboss := { EmbossUnit.reset with
      state := .settling, nipJob := some 21, part := some { settle := 2, minSpeed := 500 }, settleCount := count,
      lifts := [{ serial := 498, startPos := 5370000, endPos := 5399999, state := .inForce }] } }
theorem witness_NipWritesStatus :
    findRepeat (nipping 1).map.nipCursor (nipping 1) = some (repeatAt 500 5300000 none)
      ∧ (nipping 1).model.embossNoticed = false ∧ findRepeat (nipCrossing (nipping 1)).map.nipCursor (nipCrossing (nipping 1)) = none
      ∧ ((nipCrossing (nipping 1)).emboss.state, (nipCrossing (nipping 2)).emboss.state) = (.engaged, .settling) := by decide

/-- Station 7 at the record at the nip, its window end crossed already or not, the embosser in a state. -/
def nipAt7 (state : EmbossState) (deferred : Bool) : State :=
  let s := nipping 1
  { s with
    emboss := { s.emboss with state := state }
    register := s.register.set .s7 { StationRecord.off with
      state := .tracking, job := some 21, cursor := some 500, window := some { centre := 5390000, halfWidth := 200 }, deferredMiss := deferred } }
/-- The hand-off: an EMBOSSED record is missed with the deferred miss set and keeps its window without it; a PLAIN one is skipped
(R64, R65, R90). -/
theorem witness_NipWritesStatus_station7 :
    ([nipAt7 .engaged true, nipAt7 .engaged false, nipAt7 .lifted true].map fun s =>
        let t := passNip (repeatAt 500 5300000 none) s
        ((t.register.get .s7).cursor, (t.register.get .s7).deferredMiss, (t.register.get .s7).missRun, t.map.ring.map fun r => r.results.get .s7))
      = [(some 501, false, 1, [.pending, .missed]), (some 500, false, 0, [.pending, .pending]), (some 501, false, 0, [.pending, .skipped])]
      ∧ (repeatAt 500 5300000 none).results.get .s7 = .pending
      ∧ ((nipAt7 .engaged true).register.get .s7).cursor = some 500 ∧ (nipping 1).register.get .s7 = StationRecord.off := by decide
/-- Both records are passed at once when the nip cursor comes to rest on the first with both crossings behind it (R2, R90). -/
theorem test_nip_passed :
    (let s := nipping 1
     let t := restNip (s.withMap { s.map with nipCursor := 499 })
     (t.map.nipCursor, t.emboss.nipReg, t.map.ring.map fun r => r.emboss)) = (501, none, [.plain, .embossed]) := by decide

/-- The web has not reached the nip crossing of 500, a change point: the nip cursor comes to rest on it and takes up the part of
job 22, S 1 (R90, R91). -/
def atNipSwitch (t : Nat) : State :=
  { changing with
    pos := { changing.pos with highWater := t, speed := 3000 }
    map := { changing.map with nipCursor := 500 }
    jobs := { changing.jobs with
      head := some { record := { job21e with number := 22, emboss := some { settle := 1, lead := 3000, minSpeed := 500 } }, firstSerial := 500 } }
    emboss := (nipping 2).emboss }
theorem witness_NipWritesStatus_switch :
    (let t := restNip (atNipSwitch 5399999)
     (t.emboss.nipJob, t.emboss.settleCount, t.emboss.state, t.emboss.nipReg)) = (some 22, 0, .lifted, some 5400000)
      ∧ (let t := restNip ((atNipSwitch 5399999).withEmboss { (nipping 2).emboss with lifts := [] })
         (t.emboss.settleCount, t.emboss.state)) = (1, .settling)
      ∧ (restNip ((atNipSwitch 5400000).withEmboss { (nipping 2).emboss with lifts := [] })).map.nipCursor = 501 := by decide
/-- A lift's start, and its end at the nip crossing of the record after it: S is 2, and that record is written PLAIN (R89). -/
theorem test_lift_start_and_end :
    (liftStart 487 (splicing 5290000 eightLifts)).emboss.state = .lifted
      ∧ (let t := nipCrossing ((nipping 0).withEmboss { (nipping 0).emboss with
            state := .lifted, lifts := [{ serial := 499, startPos := 5370000, endPos := 5400000, state := .inForce }] })
         (t.emboss.state, t.emboss.settleCount, t.map.ring.map fun r => r.emboss)) = (.settling, 1, [.pending, .plain]) := by decide

theorem witness_KnifeFoldsAndRetires :
    atKnife.rolls.knifeReg = some { position := 5500000, kind := .successorBoundary }
      ∧ findRepeat atKnife.map.knifeCursor atKnife = some (repeatAt 499 5289400 (some 10600))
      ∧ findRepeat 500 atKnife = some (repeatAt 500 5300000 none)
      ∧ (atKnife.rolls.lanes.get .l0).state = .winding ∧ (atKnife.rolls.lanes.get .l0).forced = false
      ∧ (atKnife.rolls.lanes.get .l0).roll.repeats + 1 < 15 ∧ inSumRange 2147483647 = true ∧ inSumRange 2147483648 = false
      ∧ (atKnife.rolls.lanes.get .l1).state = .idle ∧ PathCleared (repeatAt 499 5289400 (some 10600)) changing
      ∧ ¬PathCleared (repeatAt 499 5289400 (some 10600)) atKnife := by
  refine ⟨by decide, by decide, by decide, by decide, by decide, by decide, by decide, by decide, by decide,
    ⟨⟨_, rfl, by decide⟩, by decide⟩, ?_⟩
  rintro ⟨⟨t, h, -⟩, -⟩; exact nomatch h

/-- Lanes 0 and 1 WINDING with `held` repeats and no roll id, the roll id counter at `first`. -/
def takingIds (held first : Nat) : State :=
  let r : LaneRecord := { LaneRecord.idle none none with state := .winding, roll := { OpenRoll.empty (some 21) with repeats := held } }
  { atKnife with rolls := { atKnife.rolls with nextRollId := first, lanes := (atKnife.rolls.lanes.set .l0 r).set .l1 r } }
/-- Two rolls take the last id and, past the wrap, the first, at a fold and at a line reset (R99, R118). -/
theorem witness_KnifeFoldsAndRetires_ids :
    takesIdAtFold (takingIds 0 5) .l1 = true ∧ lanesBelow 1 (takesIdAtFold (takingIds 0 5)) = 1
      ∧ lanesBelow 6 (takesIdAtFold (takingIds 0 5)) = 2 ∧ takesIdAtReset (takingIds 2 5) .l1 = true
      ∧ after (.encoderEdge (.onA true false)) (takingIds 0 (2 ^ 32 - 1))
          (fun t => ((t.rolls.lanes.get .l0).roll.rollId, (t.rolls.lanes.get .l1).roll.rollId, t.rolls.nextRollId))
        = some (some 4294967295, some 1, 2)
      ∧ after (.lineReset .line 0) (takingIds 2 (2 ^ 32 - 1))
          (fun t => ((t.rolls.lanes.get .l0).lastClosed, (t.rolls.lanes.get .l1).lastClosed, t.rolls.nextRollId))
        = some (some 4294967295, some 1, 2) := by decide

/-- With the boundaries of 500 and of 501 both passed, the knife acts on 499 and at once on 500 (R2, R96). -/
theorem test_knife_passed :
    (let s := (atKnife.withPos { atKnife.pos with highWater := 5520000 }).withMap
       { atKnife.map with ring := [repeatAt 499 5289400 (some 10600), repeatAt 500 5300000 (some 10600), repeatAt 501 5310600 none] }
     let t := knifeCrossing s
     (t.map.knifeCursor, t.rolls.knifeReg, (t.rolls.lanes.get .l0).roll.repeats)) = (501, none, 4) := by decide

/-- The boundary between 499 and the change point 500, and the final position of job 21 after End Job. -/
def atChange : State :=
  let r := atKnife.rolls.lanes.get .l0
  { changing with
    rolls := { atKnife.rolls with
      lanes := atKnife.rolls.lanes.set .l1 { r with forced := true, roll := { r.roll with rollId := some 8 } } } }
def atFinal : State :=
  let s := running .locked 5510599
  { s with
    pos := { s.pos with ref := { s.pos.ref with state := .idle }, splices := [5520000] }
    map := { s.map with ring := [repeatAt 500 5300000 (some 10600)], retired := 499, knifeCursor := 500 }
    jobs := { s.jobs with head := none, tail := some { record := job21, firstSerial := 1, lastSerial := 500, finalBoundary := some 5310600 } }
    rolls := { atKnife.rolls with knifeReg := some { position := 5510600, kind := .finalPosition } } }
/-- At a change point every lane is cut for JOB_CHANGE whatever its forced flag; job 21 is cleared, and the lanes wind job 22
(R101, R52, R106). -/
theorem test_knife_change_point :
    after (.encoderEdge (.onA true false)) atChange
        (fun t => (t.rolls.history.map fun e => (e.rollId, e.kind, e.reason), t.jobs.tail.isSome, pendingCount .plant .jobClear t))
      = some ([(7, .scrap, .jobChange), (8, .scrap, .jobChange)], false, 1)
      ∧ after (.encoderEdge (.onA true false)) atChange
        (fun t => (t.rolls.knifeJob.map (·.number), (t.rolls.lanes.get .l1).roll.job, (t.rolls.lanes.get .l1).forced, (t.rolls.lanes.get .l2).roll.job))
      = some (some 22, some 22, false, some 22) := by decide
/-- At the final position the lane is cut for JOB_END and goes IDLE, and the splice positions left are dropped (R101, R107, R18). -/
theorem test_knife_final :
    after (.encoderEdge (.onA true false)) atFinal
        (fun t => (t.rolls.history.map (·.reason), (t.rolls.lanes.get .l0).state, t.rolls.knifeJob.isSome, t.jobs.tail.isSome, t.pos.splices))
      = some ([.jobEnd], .idle, false, false, []) := by decide
/-- A forced roll below n_roll is FORCED, a roll at n_roll LENGTH; into a zone and out of it ZONE_START and ZONE_END, the roll of the
zone a STUB (R101, R103). -/
def cutAt (kEx nEx forced : Bool) (nRoll : Nat) : State :=
  { atKnife with
    map := { atKnife.map with ring := [{ repeatAt 499 5289400 (some 10600) with excluded := kEx }, { repeatAt 500 5300000 none with excluded := nEx }] }
    rolls := { atKnife.rolls with
      knifeJob := some { number := 21, lanes := job21.lanes, standardRepeats := nRoll, minRepeats := 2 }
      lanes := atKnife.rolls.lanes.set .l0 { atKnife.rolls.lanes.get .l0 with forced := forced } } }
theorem test_cut_reasons :
    ([cutAt false false true 15, cutAt false false true 3, cutAt false true true 3, cutAt true false false 15].map fun s =>
        after (.encoderEdge (.onA true false)) s (fun t => t.rolls.history.map fun e => (e.kind, e.reason)))
      = [some [(.short, .forced)], some [(.standard, .length)], some [(.standard, .zoneStart)], some [(.stub, .zoneEnd)]] := by decide

/-- A label record, for full queues. -/
def someLabel : LabelRecord := labelOf roll1204 .first
def queued (n : Nat) : State := atCut.withLabels { queue := List.replicate n someLabel, claimHeld := decide (14 ≤ n) }
theorem witness_CloseRollEntersHistory :
    (queued 15).labels.queue.length < 16 ∧ 16 ≤ (queued 16).labels.queue.length ∧ (queued 0).labels.queue = []
      ∧ 13 ≤ (queued 13).labels.queue.length ∧ (queued 13).labels.claimHeld = false ∧ (queued 12).labels.queue.length < 13
      ∧ (queued 14).labels.claimHeld = true := by decide
/-- The close that brings the depth to 14 raises the claim, and one to 13 does not; LABEL_READY from an empty queue alone (R148,
R150). -/
theorem test_label_claim :
    ([queued 12, queued 13].map fun s => (closeRoll .l0 .standard .length s).speed.slots.get .label)
        = [none, some { level := 3, speed := 100 }]
      ∧ ([queued 0, queued 1].map fun s => pendingCount .label .labelReady (closeRoll .l0 .standard .length s)) = [1, 0]
      ∧ ((closeRoll .l0 .standard .length (queued 0)).labels.queue.map (·.rollId)) = [7] := by decide

/-- Samples at the minimum and one below; defects at the limit and one above. -/
theorem witness_GradeChecksInOrder :
    jobOf roll1204.job graded = some job21
      ∧ (gradeRoll { roll1204 with samples := 6 } graded).1.grade ≠ .ungraded
      ∧ (gradeRoll { roll1204 with samples := 5 } graded).1.grade = .ungraded
      ∧ (gradeRoll { roll1204 with defects := 5 } graded).1.grade = .reject
      ∧ (gradeRoll { roll1204 with defects := 4 } graded).1.grade = .b
      ∧ (gradeRoll { roll1204 with minimum := none } graded).1.spread = none
      ∧ (labelOf (gradeRoll roll1204 graded).1 .first).spread = some 34 := by decide

/-- A candidate; none with places free; none with the table full. -/
def fullTable : State :=
  graded.withShade { graded.shade with
    batches := (List.range 24).map fun i => { batch41 with number := 100 + i, state := .closed, stamp := i } }
theorem witness_NearestBatchIsJoined :
    jobOf roll1204.job graded = some job21 ∧ rollMeans roll1204.samples roll1204.sums = some ⟨123, -45, 310⟩
      ∧ graded.shade.batches.Pairwise (fun b c => b.number ≠ c.number)
      ∧ (∃ b ∈ graded.shade.batches, isCandidate ⟨123, -45, 310⟩ job21 b = true)
      ∧ (∀ b ∈ graded.shade.batches, isCandidate ⟨0, 0, 0⟩ job21 b = false) ∧ graded.shade.batches.length < 24
      ∧ batchCounter 21 graded = some 43 ∧ 43 ≤ job21.batchBase + 999
      ∧ (∀ b ∈ fullTable.shade.batches, isCandidate ⟨0, 0, 0⟩ job21 b = false) ∧ 24 ≤ fullTable.shade.batches.length := by decide
/-- Numbers 43 and 44 are held by batches of another job, so 45 is taken and the counter stands at 46; with the counter at the last
number of the range and that number held, or beyond it, the roll is HOLD (R134, R135). -/
def heldNumbers (counter : Nat) (held : List Nat) : State :=
  graded.withShade { graded.shade with
    headCounter := some counter, batches := held.map fun n => { batch41 with number := n, job := 30, rolls := 1, stamp := n } }
theorem witness_NearestBatchIsJoined_counter :
    (let g := gradeRoll roll1204 (heldNumbers 43 [43, 44, 50])
     (g.1.batch, g.2.shade.headCounter, g.2.shade.batches.map fun b => (b.number, b.rolls))) = (some 45, some 46, [(43, 1), (44, 1), (50, 1), (45, 1)])
      ∧ ([heldNumbers 1040 [1040], heldNumbers 1041 [], heldNumbers 1040 []].map fun s => (gradeRoll roll1204 s).1.grade)
        = [.hold, .hold, .a] := by decide
/-- A join raises both sums, held at their limits (R136). -/
theorem test_join_sums :
    (let g := gradeRoll roll1204 (graded.withShade { graded.shade with batches := [{ batch42 with rolls := 65535, totalMm := 2 ^ 32 - 2 }] })
     g.2.shade.batches.map fun b => (b.rolls, b.totalMm)) = [(65535, 2 ^ 32 - 1)] := by decide
theorem witness_NearestBatchIsJoined_full : fullTable.shade.batches.Pairwise (fun b c => b.number ≠ c.number) := by decide

theorem witness_StartRollSetsForced :
    (0 : BitVec 8).toNat = 0 ∧ 64 ≤ (64 : BitVec 8).toNat ∧ 0 < (63 : BitVec 8).toNat ∧ (63 : BitVec 8).toNat < 64
      ∧ after (.startRoll .rewind 0 63) atKnife (fun t => (t.rolls.lanes.get .l0).forced) = some true := by decide

/-- Roll 803 of lane 0, which closed last on it: merged back while QUEUED, too late once ISSUED, stale once WITHDRAWN. -/
def faulted (st : LabelState) : State :=
  { atKnife with
    rolls := { atKnife.rolls with
      lanes := atKnife.rolls.lanes.set .l0 { atKnife.rolls.lanes.get .l0 with lastClosed := some 803 }
      history := [{ roll1204 with rollId := 803, lane := .l0, labelState := st, batch := some 42, stamp := some 517, lengthMm := 7420 }] }
    shade := { graded.shade with batches := [batch41, { batch42 with rolls := 12, totalMm := 89380 }] } }
theorem witness_CutFaultMergesOrMarks :
    Ready (faulted .queued) ∧ laneOf (BitVec.toNat (6 : BitVec 8)) = none
      ∧ ((faulted .queued).rolls.lanes.get .l0).lastClosed = some 803 ∧ (findEntry 803 (faulted .queued)).isSome = true
      ∧ (judgeCutFault .l0 803 (faulted .issued), judgeCutFault .l0 803 (faulted .withdrawn), judgeCutFault .l0 804 (faulted .queued))
          = (.tooLate, .stale, .stale) := by
  unfold Ready; decide
/-- Batch 42 falls to 11 rolls and 81,960 mm (worked sequence: a withdrawal against a batch). -/
theorem test_cut_fault :
    after (.cutFault .rewind 0 0 803) (faulted .queued)
        (fun t => (t.rolls.history.map (·.labelState), t.shade.batches.map fun b => (b.number, b.rolls, b.totalMm), (t.rolls.lanes.get .l0).roll.merged))
      = some ([.withdrawn], [(41, 5, 40000), (42, 11, 81960)], true) := by decide

theorem witness_ReseedSampling :
    State.reset.shade.seedLock = false ∧ State.reset.shade.generator = 1023
      ∧ (State.reset.withShade { State.reset.shade with seedLock := true }).shade.seedLock = true := by decide

theorem witness_SeedLockAndBroadcast : (0 : BitVec 8).toNat ≤ 1 ∧ (1 : BitVec 8).toNat ≤ 1 ∧ 1 < (2 : BitVec 8).toNat := by decide
theorem test_set_broadcast : after (.setBroadcast .line 0 1) State.reset (·.link.broadcast) = some true := by decide
theorem test_set_seed_lock : answerAfter (.setSeedLock .line 0 2) State.reset = some (.badValue, []) := by decide

/-- Serials 0, 498 (retired), 499 (in the ring) and 501 (not created); lanes 0, 2 (of another job) and 6; a sample held. -/
def sampled : State :=
  (running .locked 5300000).withMap { (running .locked 5300000).map with
    ring := [{ repeatAt 499 5289400 (some 10600) with lanes := [⟨.l0, some { shade := ⟨0, 0, 0⟩, clamped := false }, 15⟩, ⟨.l1, none, 3⟩] }] }
theorem witness_ShadeSampleStored :
    Ready sampled ∧ findRepeat 0 sampled = none ∧ findRepeat 501 sampled = none ∧ sampled.map.retired < 501
      ∧ findRepeat 498 sampled = none ∧ 498 ≤ sampled.map.retired
      ∧ (findRepeat 499 sampled).map (fun r => (r.laneEntry .l0).map (·.sample.isSome)) = some (some true)
      ∧ (findRepeat 499 sampled).map (fun r => (r.laneEntry .l1).map (·.sample.isSome)) = some (some false)
      ∧ (findRepeat 499 sampled).map (fun r => r.lanes.map fun e => laneNumber e.lane) = some [0, 1] := by
  unfold Ready; decide
/-- A component of 2001 is stored as 2000 with the clamped flag, one of -2000 as it is (R127). -/
theorem test_shade_sample :
    answerAfter (.shadeSample .quality 0 499 1 2001 0 (-2000)) sampled = some (.ok, [0x07, 0xD0, 0, 0, 0xF8, 0x30, 1, 0]) := by decide

/-- Counts 0, 1, 15 and 16; the sum saturates at 15 (R128). -/
theorem witness_DefectMarkAdds :
    (answerAfter (.defectMark .quality 0 499 1 15) sampled, answerAfter (.defectMark .quality 0 499 1 1) sampled)
        = (some (.ok, [15]), some (.ok, [4]))
      ∧ (answerAfter (.defectMark .quality 0 499 1 16) sampled, answerAfter (.defectMark .quality 0 499 1 0) sampled)
        = (some (.badValue, []), some (.badValue, [])) := by decide

theorem witness_BatchClosedAndRetired :
    Ready graded ∧ (∀ b ∈ graded.shade.batches, b.number ≠ (40 : BitVec 16).toNat) ∧ findBatch 42 graded = some batch42
      ∧ batch42.state = .opened
      ∧ answerAfter (.closeBatch .plant 0 42) graded = some (.ok, [0, 11, 0, 0x01, 0x40, 0x28])
      ∧ answerAfter (.retireBatch .plant 0 42) graded = some (.busy, [])
      ∧ ((nextOf (exec (.closeBatch .plant 0 42) graded)).map fun t => (findBatch 42 t).map (·.state)) = some (some .closed) := by
  unfold Ready; decide

/-- Depths 11 and 12 before a Take Label, with the claim held (worked sequence: a labeller falling behind). -/
def labelled (n : Nat) (st : LabelState) : State :=
  { State.reset with
    labels := { queue := List.replicate n someLabel, claimHeld := true }
    rolls := { State.reset.rolls with history := [{ roll1204 with labelState := st }] }
    speed := { State.reset.speed with slots := State.reset.speed.slots.set .label (some { level := 3, speed := 100 }), active := some .label } }
theorem witness_LabelRequests :
    Ready (labelled 11 .queued) ∧ (labelled 11 .queued).labels.queue = someLabel :: List.replicate 10 someLabel
      ∧ (findEntry 1204 (labelled 11 .issued)).map (·.labelState) = some .issued ∧ findEntry 1 (labelled 11 .queued) = none
      ∧ after (.takeLabel .label 0) (labelled 11 .queued) (fun t => (t.labels.claimHeld, t.rolls.history.map (·.labelState))) = some (false, [.issued])
      ∧ after (.takeLabel .label 0) (labelled 12 .queued) (·.labels.claimHeld) = some true := by
  unfold Ready; decide
theorem test_label_applied : after (.labelApplied .label 0 1204) (labelled 0 .issued) (fun t => t.rolls.history.map (·.labelState)) = some [.applied] := by
  decide
theorem test_relabel_withdrawn : answerAfter (.relabel .plant 0 1204) (labelled 0 .withdrawn) = some (.notFound, []) := by decide

theorem witness_ArbitrationRule :
    true ≠ (claimed false none 3000).speed.gateOpen
      ∧ RunsArbitration (claimed true (some .m3) 1800).speed (changeSlot .m3 none (claimed true (some .m3) 1800).speed) := by
  refine ⟨by decide, ?_, ?_, by decide, ?_⟩
  · intro a h he
    obtain rfl : Slot.m3 = a := by simpa [claimed, State.withSpeed] using h
    exact absurd he (by decide)
  · intro _
    refine ⟨by decide, fun k => by cases k <;> decide⟩
  · intro a c h hc
    obtain rfl : Slot.m6 = a := by
      have : (changeSlot .m3 none (claimed true (some .m3) 1800).speed).active = some .m6 := by decide
      rw [this] at h; simpa using h
    have : (changeSlot .m3 none (claimed true (some .m3) 1800).speed).slots.get .m6 = some { level := 2, speed := 2500 } := by decide
    rw [this] at hc; cases hc; decide

/-- Levels 0, 1, 7 and 8; an empty slot of an arbitrated speed authority. -/
theorem witness_ClaimAndRelease :
    (0 : BitVec 8).toNat = 0 ∧ 7 < (8 : BitVec 8).toNat ∧ 1 ≤ (1 : BitVec 8).toNat ∧ (7 : BitVec 8).toNat ≤ 7
      ∧ Arbitrated State.reset.speed ∧ State.reset.speed.slots.get (masterSlot .label) = none := by
  refine ⟨by decide, by decide, by decide, by decide, ⟨⟨fun k => by cases k <;> decide, by decide⟩, by decide, by decide⟩, by decide⟩

theorem witness_SetRunSpeed :
    State.reset.speed.slots.get .label = none ∧ (labelled 11 .queued).speed.slots.get .label = some { level := 3, speed := 100 } := by decide
theorem witness_SetClaimGate : decide ((1 : BitVec 8) = 1) = State.reset.speed.gateOpen ∧ decide ((0 : BitVec 8) = 1) ≠ State.reset.speed.gateOpen := by
  decide

/-- The least and the greatest valid geometry, and one count outside; a head job, and none. -/
theorem witness_SetGeometry :
    Ready (running .locked 5300000) ∧ (running .locked 5300000).jobs.head.isSome = true ∧ armedJob State.reset = none
      ∧ answerAfter (.setGeometry .line 0 20000 0 19999) State.reset = some (.ok, [])
      ∧ answerAfter (.setGeometry .line 0 4000000 2000000 3999999) State.reset = some (.ok, [])
      ∧ answerAfter (.setGeometry .line 0 19999 0 0) State.reset = some (.badValue, [])
      ∧ answerAfter (.setGeometry .line 0 20000 0 20000) State.reset = some (.badValue, []) := by
  unfold Ready; decide

/-- Every field of a payload whose pattern is one character, of station 0 alone and 7,500 mm, is valid. -/
theorem witness_LoadJob_valid : ∀ n, 1 ≤ n → n ≤ 28 → FieldValid (payload 10600) n := by
  intro n h1 h2
  interval_cases n <;>
    first
    | (simp only [FieldValid]; decide)
    | (simp only [FieldValid, EntryValid]; decide)
    | exact ⟨1, by decide, by decide, by decide⟩
    | exact ⟨by decide, by decide, 15, by unfold IsStandardRepeats; decide, by decide, by decide⟩
    | exact ⟨by decide, 15, by unfold IsStandardRepeats; decide, by decide⟩
/-- A repeat length of 1,999 fails field 3 first; a trim limit of 2,001 fails field 10 at station 0. -/
def badTrimLimit : List Byte := (payload 10600).take 50 ++ bytesOf 2 2001
theorem witness_LoadJob_bad :
    ¬FieldValid (payload 1999) 3 ∧ FieldValid (payload 1999) 1 ∧ FieldValid (payload 1999) 2 ∧ ¬EntryValid badTrimLimit 0 10
      ∧ answerAfter (.loadJob .line 0 badTrimLimit) State.reset = some (.badValue, [10, 1, 0]) := by
  refine ⟨?_, ?_, ⟨1, by decide, by decide, by decide⟩, ?_, by decide⟩ <;>
    first
    | (simp only [FieldValid]; decide)
    | (simp only [EntryValid]; decide)
theorem witness_LoadJob :
    (payload 10600).length = 52 ∧ stationCount (payload 10600) = 1 ∧ (armedJob (withArmed State.reset)).isSome = true
      ∧ Ready (withArmed State.reset) ∧ stationCount (List.replicate 52 0) = 0 := by
  unfold Ready; decide

theorem witness_JobCheckConditions : job21.halfWindow < job21.length ∧ shortJob.halfWindow < shortJob.length := by decide

theorem witness_ArmJob :
    Ready staged ∧ staged.jobs.staged.isSome = true ∧ State.reset.jobs.staged = none ∧ judgeArm staged = .ok
      ∧ judgeArm (withArmed State.reset) = .busy
      ∧ judgeArm (staged.withJobs { staged.jobs with staged := some { record := job21, armed := false } }) = .badValue := by
  unfold Ready; decide

/-- With a tail job beside the head job. -/
def twoJobs : State :=
  staged.withJobs { staged.jobs with tail := some { record := { job21 with number := 20 }, firstSerial := 1, lastSerial := 498, finalBoundary := none } }
theorem witness_EndJob :
    Ready twoJobs ∧ twoJobs.jobs.head.isSome = true ∧ twoJobs.jobs.tail.isSome = true
      ∧ staged.jobs.head = some { record := job21, firstSerial := 1 } ∧ staged.jobs.tail = none
      ∧ staged.map.ring.getLast? = some (repeatAt 500 5300000 none)
      ∧ seeking.jobs.head = none ∧ (armedJob seeking).isSome = true ∧ State.reset.jobs.head = none ∧ armedJob State.reset = none
      ∧ dueKnifeReg staged = some { position := 5500000, kind := .successorBoundary } ∧ staged.pos.highWater < 5500000 := by
  unfold Ready; decide
/-- `staged` with a splice position in the span that End Job completes. -/
def spliceInLast : State := staged.withPos { staged.pos with splices := [5305000, 5400000] }
theorem witness_EndJob_splice :
    (spliceRepeatAt 5310600 spliceInLast).isSome = true ∧ spliceRepeatAt 5310600 staged = none := by decide
/-- End Job resolves a splice in the last span: 500 is flagged with its zone, the extent reaches past it, SPLICE_SEEN (R12, R16). -/
theorem test_end_job_splice :
    after (.endJob .line 0) spliceInLast (fun t => (t.pos.splices, t.map.ring.getLast?.map fun r => (r.splice, r.excluded), pendingCount .line .spliceSeen t))
      = some ([5400000], some (true, true), 1) := by decide

/-- With 500 alone in the ring the final knife position is placed at once (R50, R96). -/
theorem test_end_job_knife :
    after (.endJob .line 0) (staged.withMap { staged.map with ring := [repeatAt 500 5300000 none], retired := 499, knifeCursor := 500 })
        (fun t => (t.rolls.knifeReg, t.map.ring.map (·.length)))
      = some (some { position := 5510600, kind := .finalPosition }, [some 10600]) := by decide

/-- With REF ACTIVE no claim is left. A close that fills LABEL takes the place of PLANT's claim, and the reset passes it to the first
master of the fixed order at the level, master 3 (R173). -/
theorem test_line_reset_arbitration :
    ([running .lost 5300000, (queued 13).withSpeed (claimed true (some .m6) 2500).speed,
      (queued 12).withSpeed (claimed true (some .m6) 2500).speed].map fun s =>
        after (.lineReset .line 0) s (fun t => (t.speed.active, t.speed.granted, pendingCount .plant .claimChange t)))
      = [some (none, 3000, 1), some (some .m3, 1800, 1), some (some .m6, 2500, 0)] := by decide
theorem witness_LineReset : Ready atKnife ∧ ListsBounded atKnife ∧ openRollCount atKnife = 1 := by unfold Ready ListsBounded; decide

/-- A taught station: the offset 60,000 and a last error that reaches 0, and D_cut - W - 1; one count beyond both. -/
def teachable (err : Int) : State :=
  let s := tracking 5360000
  s.withRegister (s.register.set .s1 { s.register.get .s1 with lastError := err, teachReady := true })
theorem witness_TeachOffsets :
    Ready (teachable 30) ∧ teachOutcome .s1 (teachable (-60000)) = .taught ∧ teachOutcome .s1 (teachable (-60001)) = .outOfRange
      ∧ teachOutcome .s1 (teachable 139799) = .taught ∧ teachOutcome .s1 (teachable 139800) = .outOfRange
      ∧ (nextOf (exec (.teachOffsets .line 0) (teachable 30))).map (stationOffset .s1) = some (some 60030) := by
  unfold Ready; decide
theorem witness_Taught : Taught .s1 60000 (teachable (-60000)) ∧ Taught .s1 60000 (teachable 139799) :=
  ⟨⟨by decide, by decide, by decide, by decide, job21, by decide, by decide⟩,
    ⟨by decide, by decide, by decide, by decide, job21, by decide, by decide⟩⟩

theorem witness_ReadsChangeNothing :
    1 ≤ (1 : BitVec 16).toNat ∧ (1023 : BitVec 16).toNat < 1024 ∧ 1024 ≤ (1024 : BitVec 16).toNat ∧ (0 : BitVec 16).toNat = 0
      ∧ (findRepeat (500 : BitVec 32).toNat staged).isSome = true ∧ findRepeat (501 : BitVec 32).toNat staged = none
      ∧ (findEntry (803 : BitVec 32).toNat (faulted .queued)).isSome = true ∧ findEntry (804 : BitVec 32).toNat (faulted .queued) = none := by
  decide
/-- Take Trims of one station: a count byte and seven bytes (R197); Read Batches and Read Sample Plan of empty tables. -/
theorem test_take_trims : answerAfter (.takeTrims .drive 0) (tracking 5360000) = some (.ok, [1, 1, 2, 0xFF, 0xF6, 0, 41, 0]) := by decide
theorem test_read_batches : answerAfter (.readBatches .plant 0) State.reset = some (.ok, [24, 0, 0]) := by decide
theorem test_read_sample_plan : answerAfter (.readSamplePlan .quality 0) State.reset = some (.ok, [0, 0, 0, 0, 0, 0, 0]) := by decide
theorem test_status_bad_mask : answerAfter (.status .plant 0 1024) State.reset = some (.badValue, []) := by decide
/-- The web map's section is preceded by its bit number (R182, R39). -/
theorem test_status_section : (answerAfter (.status .plant 0 2) staged).map (fun a => a.2.take 8) = some [1, 0, 2, 1, 0, 0, 0x01, 0xF3] := by decide
theorem test_read_rolls : answerAfter (.readRolls .rewind 0 1) State.reset = some (.notFound, []) := by decide

theorem witness_ReadNoticesEmptiesSet : allKinds.all (fun k => pendingCount .line k State.reset == 0) = true := by decide
theorem witness_SetNoticeMask :
    16384 ≤ (16384 : BitVec 16).toNat ∧ (16383 : BitVec 16).toNat < 16384
      ∧ answerAfter (.setNoticeMask .line 0 16383) State.reset = some (.ok, [0x3F, 0xFF, 0, 0]) := by decide

theorem witness_EmbossHoldAndRelease :
    answerAfter (.embossHold .line 0) (embossing 0) = some (.ok, [2]) ∧ answerAfter (.embossRelease .line 0) (embossing 0) = some (.ok, [4]) := by decide

/-- The longest payload of a request, 120 bytes, and none. -/
theorem witness_RequestFrameIsRequest :
    (Instr.readNotices .line 0).request = some (.line, 0, .readNotices) ∧ State.reset.link.address ≠ 0
      ∧ (requestPayload (.loadJob (List.replicate 120 0))).length = 120 ∧ (requestPayload .readNotices).length ≤ 240 := by decide +kernel
theorem witness_PayloadReadsBack : requestName .armJob ≠ .loadJob ∧ lengthAllowed .armJob 0 = true := by decide

/-- A short frame; a changed CRC; another address; master 7; a request that may not be broadcast. -/
def addressed (address master : Byte) : List Byte := withCrc [address, master, 0x04, 0, 0]
def broadcasting : State := State.reset.withLink { State.reset.link with broadcast := true }
theorem witness_BadFrameDiscarded :
    (receiving [] State.reset).link.state = .receiving
      ∧ (after .endDelimiter (receiving [1, 2, 3, 4, 5, 6] State.reset) (·.link.lastReason),
         after .endDelimiter (receiving (addressed 0x41 1) State.reset) (·.link.lastReason),
         after .endDelimiter (receiving (addressed 0x40 7) State.reset) (·.link.lastReason),
         after .endDelimiter (receiving (addressed 0x00 1) broadcasting) (·.link.lastReason))
        = (some .length, some .address, some .master, some .broadcast) := by decide +kernel

/-- A code outside the index; a role that may not; a length that is not allowed. -/
theorem witness_FrameRefused :
    requestOfCode 0x08 = none ∧ requestOfCode 0x10 = some .setGeometry ∧ permitted .setGeometry .drive = false
      ∧ permitted .setGeometry .line = true ∧ lengthAllowed .setGeometry 11 = false ∧ State.reset.link.address ≠ 0 := by decide

theorem witness_BroadcastClaimTaken :
    broadcasting.link.broadcast = true ∧ broadcasting.pins.resetLow = false ∧ broadcasting.model.embossNoticed = false
      ∧ after .endDelimiter (receiving (requestFrame 0x00 .plant 0 (.claim 1 2500)) broadcasting) (fun t => (t.speed.active, t.link.state))
        = some (some .m6, .listening) := by decide +kernel

/-- LISTENING, RECEIVING, and ANSWERING with the last segment not begun and begun. -/
def answering (begun : Nat) : State :=
  State.reset.withLink { State.reset.link with
    state := .answering, response := some { master := 1, code := 4, tag := 0, answer := { outcome := .ok, values := [0, 0] }, begun := begun } }
theorem witness_LineSymbols :
    State.reset.link.state = .listening ∧ (receiving [] State.reset).link.state = .receiving ∧ (answering 0).link.state = .answering
      ∧ segmentCount { outcome := .ok, values := [0, 0] } = 1
      ∧ after .finalSegmentEnd (answering 1) (·.link.state) = some .listening
      ∧ after .finalSegmentEnd (answering 0) (·.link.state) = some .answering := by decide
theorem test_frame_pause : after .framePause (receiving [1] State.reset) (fun t => (t.link.state, t.link.lastReason)) = some (.listening, .framing) := by
  decide

/-- 238 bytes fill one segment, 239 take two. -/
theorem witness_SegmentsJoinToAnswer :
    segmentCount { outcome := .ok, values := List.replicate 238 0 } = 1 ∧ segmentCount { outcome := .ok, values := List.replicate 239 0 } = 2
      ∧ ([0, 1].map fun i => (segmentByte { outcome := .ok, values := List.replicate 239 0 } i).toNat) = [0x00, 0x81] := by
  decide +kernel
/-- The CRC's known check value, over the characters 1 to 9; the one segment of a short answer, its CRC by hand (R176, R192). -/
theorem test_segment_bytes :
    crcOf [0x31, 0x32, 0x33, 0x34, 0x35, 0x36, 0x37, 0x38, 0x39] = 0x29B1
      ∧ (nextOf (exec .segmentSend (answering 0))).bind segmentOnWire = some [0xC0, 1, 4, 0, 4, 0x00, 0x80, 0, 0, 0xCC, 0x50] := by
  decide +kernel

theorem witness_LinkChecksRequest :
    (answering 0).link.state = .answering ∧ (receiving [1] State.reset).link.state = .receiving ∧ State.reset.link.state = .listening
      ∧ permitted (requestName .armJob) .plant = false ∧ permitted (requestName .armJob) .line = true
      ∧ (Instr.armJob .plant 0).request = some (.plant, 0, .armJob)
      ∧ lengthAllowed (requestName (.loadJob [])) (requestPayload (.loadJob [])).length = false := by decide

/-- Device reset drops what a running path has registered (R190). -/
theorem test_device_reset_drops :
    ((registered atKnife).length, (nextOf (exec .deviceReset atKnife)).map fun t => (registered t, t.rolls.lanes.get .l0))
      = (1, some ([], LaneRecord.idle none none)) := by decide
theorem witness_DeviceReset :
    State.reset.pins.resetLow = false ∧ (assertReset State.reset).pins.resetLow = true
      ∧ (nextOf (exec (.deviceResetRelease true true false) (assertReset State.reset))).map (·.link.address) = some 0x43 := by decide

/-- Steps that move each kind of state, from states that meet the laws. -/
def stepping (c : Instr) (s : State) : State := s.withPending [c]
theorem witness_JobsSound (t : Nat) (ref : RefState) (cs : List Instr) : JobsSound ((running ref t).withPending cs) :=
  ⟨rfl, fun h => (nomatch h), fun _ h => (nomatch h), fun h e => by cases e; exact ⟨by decide, by decide, by decide, by decide⟩,
    fun _ h => (nomatch h)⟩
theorem witness_StepKeepsBounds :
    PositionSound (stepping .referenceMark (running .locked 5310400)) ∧ ListsBounded (stepping .referenceMark (running .locked 5310400))
      ∧ (nextOf (step (stepping .referenceMark (running .locked 5310400)))).isSome = true := by
  unfold PositionSound ListsBounded; decide
theorem witness_StepKeepsBounds_counters :
    CountersInRange (takingIds 0 (2 ^ 32 - 1)) ∧ ¬CountersInRange (takingIds 0 (2 ^ 32)) := by unfold CountersInRange; decide
theorem witness_StepKeepsBounds_path : PathSound (stepping .referenceMark (running .locked 5310400)) :=
  ⟨fun r h => .inl ⟨{ record := job21, firstSerial := 1 }, rfl, by
      have : r.job = 21 := (by decide : ∀ r ∈ (stepping .referenceMark (running .locked 5310400)).map.ring, r.job = 21) r h
      exact this.symm⟩,
    fun _ _ _ h => (nomatch h), fun _ _ _ h => (nomatch h), fun h => (nomatch h)⟩
/-- A mark whose window end is reached in the same count, taken before the crossing: from a state with the mark waiting and the
window end due, and from one with nothing due. -/
theorem witness_StepKeepsSettled :
    inputWaits (stepping .referenceMark (running .locked 5310800)) = true ∧ ¬Settled (stepping .referenceMark (running .locked 5310800))
      ∧ Settled (stepping .referenceMark (running .locked 5310799))
      ∧ (nextOf (step (stepping .referenceMark (running .locked 5310800)))).map dueCrossings = some []
      ∧ HeldInReset (stepping .referenceMark (running .locked 5310800)) := by
  refine ⟨by decide, by unfold Settled; decide, by unfold Settled; decide, by decide, fun h => (nomatch h)⟩
theorem witness_StepKeepsArbitration :
    Arbitrated (stepping (.release .quality 0) (claimed true (some .m3) 1800)).speed
      ∧ (nextOf (step (stepping (.release .quality 0) (claimed true (some .m3) 1800)))).map (·.speed.active) = some (some .m6) := by
  refine ⟨⟨⟨by decide, fun k => by cases k <;> decide, fun c h => ?_⟩, by decide, by decide⟩, by decide⟩
  have : (stepping (.release .quality 0) (claimed true (some .m3) 1800)).speed.slots.get .m3 = some { level := 2, speed := 1800 } := by decide
  rw [this] at h; cases h; decide
theorem witness_StepKeepsArbitration_claims :
    ClaimsAgree (running .lost 5310800) ∧ ReferenceRuns (running .lost 5310800) :=
  ⟨⟨by decide, ⟨fun h => (nomatch h), fun ⟨st, h⟩ => by cases st <;> exact absurd h (by decide)⟩, by decide, fun _ => by decide,
    fun st h => by cases st <;> exact absurd rfl h⟩, .inr (.inr rfl)⟩
/-- REG is filled and station 1 LOST, in the head job. -/
def regLost : State :=
  { holding with
    register := holding.register.set .s1 { holding.register.get .s1 with state := .lost }
    speed := { holding.speed with slots := holding.speed.slots.set .reg (some { level := 5, speed := 600 }), active := some .reg, granted := 600 } }
theorem witness_StepKeepsArbitration_reg : ClaimsAgree regLost :=
  ⟨by decide, ⟨fun _ => ⟨.s1, by decide⟩, fun _ => by decide⟩, by decide, fun _ => by decide,
    fun st h => by cases st <;> first | decide | exact absurd (by decide) h⟩
theorem witness_StepKeepsEmbosser :
    EmbossSound (stepping (.embossHold .line 0) (embossing 0))
      ∧ (nextOf (step (stepping (.embossHold .line 0) (embossing 0)))).map (·.emboss.state) = some .lifted := by unfold EmbossSound; decide
theorem witness_StepKeepsLink :
    LinkSound (stepping .segmentSend (answering 0)) ∧ HeldInReset (stepping .segmentSend (answering 0))
      ∧ HeldInReset (assertReset State.reset) ∧ (assertReset State.reset).pins.resetLow = true
      ∧ (stepping .segmentSend (answering 0)).model.embossNoticed = false := by
  refine ⟨⟨by decide, by decide, by decide, fun r h => ?_, fun m k => ?_, fun m k => ?_, by decide⟩, ?_, ?_, by decide, by decide⟩
  · obtain rfl := Option.some.inj (h.symm.trans (rfl : (stepping .segmentSend (answering 0)).link.response = some _)); decide
  · cases m <;> cases k <;> decide
  · cases m <;> cases k <;> decide
  · intro h; exact absurd h (by decide)
  · intro _; decide
theorem witness_StepKeepsRing :
    RingSound (stepping .referenceMark (running .locked 5310400))
      ∧ (stepping .referenceMark (running .locked 5310400)).pos.nextSerial
          + (stepping .referenceMark (running .locked 5310400)).pos.highWater / 2000 + 4 ≤ 2 ^ 32 - 1
      ∧ (nextOf (step (stepping .referenceMark (running .locked 5310400)))).map (·.map.ring.length) = some 3 := by
  unfold RingSound; decide

end Sys2Proof.Tests
end

/-! O59, O60 and O53: the serial counter's end, the state right after device reset, and device reset itself. -/

namespace Sys2Proof.Machine

open Sys2Proof Sys2Proof.Tests

/-! ### The serial counter's end (O59) -/

/-- The job of the worked sequences with the least R and W, and no station. -/
def shortJob : JobRecord := { job21 with length := 2000, halfWindow := 50, stations := [] }

/-- An empty ring four serials before the counter's end, the newest start at 0, and the line position, which no law of the
statement orders below the high-water position, at the fifth window end. -/
def farAhead : State :=
  { State.reset with
    pos := { State.reset.pos with
      linePos := 10050, nextSerial := 2 ^ 32 - 5,
      ref := { RefRecord.reset with state := .coasting, newestStart := some 0 } }
    map := { ring := [], extent := 0, retired := 2 ^ 32 - 6, nipCursor := 1, knifeCursor := 2 ^ 32 - 5 }
    jobs := { State.reset.jobs with head := some { record := shortJob, firstSerial := 1 } }
    pending := [.encoderEdge (.onA true false)] }

/-- The state after the counted edge: five SYNTH repeats, the last of them with serial 2^32 - 1. -/
def farAfter : State := takeEdge (.onA true false) (farAhead.withPending [])

theorem step_farAhead : step farAhead = .next farAfter := rfl

theorem jobsSound_farAhead : JobsSound farAhead :=
  ⟨by decide, fun h => (nomatch h), fun _ h => (nomatch h),
    fun h e => by cases e; exact ⟨by decide, by decide, by decide, by decide⟩, fun _ h => (nomatch h)⟩

theorem ringSound_farAhead : RingSound farAhead := by unfold RingSound; decide

/-- Five records have joined the ring and none has left it, so consecutive serials would put the counter at 2^32. -/
theorem farAfter_ring : farAfter.map.retired + 1 + farAfter.map.ring.length = 2 ^ 32 := by decide

/-- The counter after serial 2^32 - 1 is the free value, of 32 bits. -/
theorem farAfter_nextSerial : farAfter.pos.nextSerial = (Config.serialPastLast 0).toNat := rfl

/-- Refutes O59: the statement does not order the line position below the high-water position, so one counted edge can move the
high-water position over more window ends than its allowance counts, and the counter runs past 2^32 - 1. -/
theorem not_stepKeepsRing : ¬ Obligations.StepKeepsRing := by
  intro h
  obtain ⟨-, hnext, -, -⟩ := h farAhead farAfter step_farAhead jobsSound_farAhead ringSound_farAhead (by decide)
  rw [farAfter_nextSerial, farAfter_ring] at hnext
  have hlt : (Config.serialPastLast 0).toNat < 2 ^ 32 := (Config.serialPastLast 0).isLt
  omega

/-! ### The state right after device reset (O60) -/

theorem arbitrated_reset : Arbitrated State.reset.speed :=
  ⟨⟨fun k => by cases k <;> rfl, rfl⟩, by decide, by decide⟩

theorem claimsAgree_reset : ClaimsAgree State.reset := by
  refine ⟨by decide, ⟨fun h => (nomatch h), fun ⟨st, h⟩ => ?_⟩, by decide, fun h => ?_, fun st h => ?_⟩
  · cases st <;> exact (nomatch h)
  · exact absurd h (by unfold ReferenceRuns; decide)
  · cases st <;> exact absurd rfl h

theorem linkSound_reset : LinkSound State.reset :=
  ⟨by decide, by decide, by decide, fun _ h => (nomatch h), fun m k h => absurd (by cases m <;> cases k <;> rfl) h,
    fun m k => by cases m <;> cases k <;> decide, by decide⟩

/-- Settles O60. -/
theorem resetIsSound : Obligations.ResetIsSound := by
  refine ⟨by unfold PositionSound; decide, by unfold ListsBounded; decide, ?_, ?_, by decide, by unfold CountersInRange; decide,
    arbitrated_reset, claimsAgree_reset, by unfold EmbossSound; decide, linkSound_reset, fun h => (nomatch h),
    by unfold RingSound; decide, by unfold Ready; decide, by unfold Settled; decide⟩
  · exact ⟨by decide, fun h => (nomatch h), fun _ h => (nomatch h), fun _ h => (nomatch h), fun _ h => (nomatch h)⟩
  · exact ⟨fun _ h => (nomatch h), fun _ _ h => (nomatch h), fun _ _ h => (nomatch h), fun h => (nomatch h)⟩

/-! ### Device reset (O53) -/

/-- While device reset is asserted, a command other than its release leaves the state as it is (R190). -/
theorem exec_of_resetLow {s : State} (h : s.pins.resetLow = true) {c : Instr} (hc : ∀ a b d, c ≠ .deviceResetRelease a b d) :
    exec c s = .next s := by
  have low (f : State → State) : Host.Outcome.next (unlessReset f s) = (.next s : StepOutcome) := by rw [unlessReset_of_low h]
  cases c
  case deviceReset => simp [exec, execDeviceReset, h]
  case deviceResetRelease a b d => exact absurd rfl (hc a b d)
  all_goals exact low _

/-- The straps give the eight addresses from 0x40 (R177). -/
theorem strapAddress_toNat (a b d : Bool) :
    (strapAddress a b d).toNat = 0x40 + (if a then 1 else 0) + (if b then 2 else 0) + if d then 4 else 0 := by
  cases a <;> cases b <;> cases d <;> rfl

/-- No position is registered after the assertion of device reset. -/
theorem registered_assertReset (s : State) : registered (assertReset s) = [] := rfl

/-- Settles O53. -/
theorem deviceReset : Obligations.DeviceReset := by
  refine ⟨fun s h => ?_, fun s c h hc => exec_of_resetLow h hc, fun s a b d h => ?_, fun s a b d h => ?_⟩
  · refine ⟨assertReset s, by simp [exec, execDeviceReset, h], rfl, rfl, rfl, fun st => ?_, rfl, fun l => ?_, rfl, rfl, rfl, rfl, rfl,
      registered_assertReset s, rfl, rfl, fun k => ?_, rfl, rfl, rfl, rfl, rfl, rfl, rfl, rfl, rfl, rfl, rfl, fun m k => ?_, fun m => ?_, rfl, rfl, rfl,
      rfl, rfl⟩
    · cases st <;> rfl
    · cases l <;> exact ⟨rfl, rfl⟩
    · cases k <;> rfl
    · cases m <;> cases k <;> rfl
    · cases m <;> exact ⟨rfl, rfl⟩
  · simp [exec, execDeviceResetRelease, h]
  · exact ⟨releaseReset a b d s, by simp [exec, execDeviceResetRelease, h], strapAddress_toNat a b d, rfl, rfl, rfl, rfl⟩

end Sys2Proof.Machine

/-! O4, O6 and O10: the interval timer, a mark that creates no repeat, and a splice edge outside every known span. -/

namespace Sys2Proof.Machine

open Sys2Proof

/-! ### An event without a change of the granted speed -/

/-- The model's own mark for one EMBOSS_CHANGE in an event, cleared. -/
def withEventClosed (s : State) : State := s.withModel { s.model with embossNoticed := false }

theorem withEventClosed_of_clear {s : State} (h : s.model.embossNoticed = false) : withEventClosed s = s := by
  unfold withEventClosed; rw [← h]; rfl

/-- An event is its effect with its notices, begun and ended with the mark clear (R93, R169). -/
theorem asEvent_eq (f : State → State) (s : State) :
    asEvent f s = withEventClosed (grantNoticed s (f (withEventClosed s))) := rfl

/-- An event that leaves the granted speed raises no CLAIM_CHANGE (R169). -/
theorem asEvent_of_grantedKept {f : State → State} {s : State} (hc : s.model.embossNoticed = false)
    (hg : (f s).speed.granted = s.speed.granted) : asEvent f s = withEventClosed (f s) := by
  have hs : s.withModel { s.model with embossNoticed := false } = s := withEventClosed_of_clear hc
  simp only [asEvent, hs, hg, if_true]
  rfl

/-- An event that leaves the state leaves it. -/
theorem asEvent_of_unchanged {f : State → State} {s : State} (hc : s.model.embossNoticed = false) (hf : f s = s) : asEvent f s = s := by
  rw [asEvent_of_granted (by rw [hf]) hc (by rw [hf, hc]), hf]

/-! ### The interval timer (R3, R84, R87) -/

/-- A move of the embosser, as an event of its own, is the embosser at its new state with one EMBOSS_CHANGE for a move (R93). -/
theorem moveEmboss_closed {s : State} (hc : s.model.embossNoticed = false) (state : EmbossState) (count : Nat) :
    withEventClosed (moveEmboss state count s) = embossAt (state, count) s := by
  unfold moveEmboss embossAt noteEmbossMove
  by_cases h : s.emboss.state = state
  · rw [if_pos h, if_pos h.symm]
    exact withEventClosed_of_clear hc
  · rw [if_neg h, if_neg (Ne.symm h)]
    simp only [State.withEmboss_model, hc, Bool.false_eq_true, if_false]
    exact (withEventClosed_of_clear hc :
      withEventClosed (raiseNotice .embossChange (s.withEmboss { s.emboss with state := state, settleCount := count })) = _)

/-- An embosser that stays where it is. -/
theorem embossAt_self (s : State) : embossAt (s.emboss.state, s.emboss.settleCount) s = s := by
  unfold embossAt
  rw [if_pos rfl]
  rfl

/-- Finding the causes again, as an event of its own, takes the embosser where R84 says. -/
theorem retestCauses_closed {s : State} (hc : s.model.embossNoticed = false) :
    withEventClosed (retestCauses s) = embossAt (afterCauses (partSettle s) (anyCause s) s.emboss.state s.emboss.settleCount) s := by
  have stays (h : (s.emboss.state, s.emboss.settleCount) = afterCauses (partSettle s) (anyCause s) s.emboss.state s.emboss.settleCount) :
      withEventClosed s = embossAt (afterCauses (partSettle s) (anyCause s) s.emboss.state s.emboss.settleCount) s := by
    rw [← h, embossAt_self, withEventClosed_of_clear hc]
  unfold retestCauses beginSettling
  cases hst : s.emboss.state <;> cases hcause : anyCause s <;> simp only [Bool.false_eq_true, if_true, if_false]
  case lifted.false =>
    by_cases h0 : partSettle s = 0 <;> simp [h0, moveEmboss_closed hc, afterCauses]
  case settling.true | engaged.true => exact moveEmboss_closed hc _ _
  all_goals
    rw [hst, hcause] at stays
    exact stays rfl

/-- Settles O4. -/
theorem intervalTimerSetsSpeed : Obligations.IntervalTimerSetsSpeed := by
  intro s hr hc
  rw [exec, execIntervalTimer, unlessReset_of_high hr, asEvent_of_grantedKept hc (by simp), takeInterval]
  exact congrArg _ (retestCauses_closed hc)

/-! ### A mark that creates no repeat (R5, R8) -/

/-- The registered positions rest on the reference's state and newest start, the jobs, the stations' windows, the nip crossing, the
lifts and the knife registration (R2). -/
theorem registered_congr {s t : State} (hs : t.pos.ref.state = s.pos.ref.state) (hn : t.pos.ref.newestStart = s.pos.ref.newestStart)
    (hj : t.jobs = s.jobs) (hst : t.register = s.register) (hnip : t.emboss.nipReg = s.emboss.nipReg)
    (hl : t.emboss.lifts = s.emboss.lifts) (hk : t.rolls.knifeReg = s.rolls.knifeReg) : registered t = registered s := by
  have hw : refWindow t = refWindow s := by simp only [refWindow, creatingJob, armedJob, hs, hn, hj]
  have he : stationEnd t = stationEnd s := by funext st; simp only [stationEnd, hst]
  have ha : endsAlone t = endsAlone s := by funext l; simp only [endsAlone, hj]
  have hp : liftPosition t = liftPosition s := by funext l; simp only [liftPosition, ha]
  simp only [registered, hw, he, hp, hnip, hl, hk]

/-- A settled state stays settled while the registered positions and the high-water position stay. -/
theorem Settled.of_registered {s t : State} (h : Settled s) (hr : registered t = registered s) (hw : t.pos.highWater = s.pos.highWater) :
    Settled t := by
  unfold Settled dueCrossings at h ⊢
  rw [hr, hw, h]

/-- In a settled state no reference window end has been reached. -/
theorem refEndPassed_of_settled {s : State} (h : Settled s) : refEndPassed s = false := by
  unfold refEndPassed
  split
  · rfl
  · next w hw =>
    unfold Settled dueCrossings registered at h
    rw [hw] at h
    simp only [Option.map_some, Option.toList_some, List.append_assoc, List.cons_append, List.filter_cons] at h
    split at h
    · exact absurd h (by simp)
    · next hd =>
      simp only [decide_eq_true_eq, Nat.cast_le] at hd
      exact decide_eq_false hd

/-- REFERENCE_MARK is its own effect where the state it leaves is settled. -/
theorem exec_referenceMark_of_settled {s t : State} (hr : s.pins.resetLow = false) (ht : asEvent takeReferenceMark s = t)
    (hset : Settled t) : exec .referenceMark s = .next t := by
  rw [exec, execReferenceMark, unlessReset_of_high hr, ht, takeRefEnds_of_ahead (refEndPassed_of_settled hset), takeDue_of_settled hset]

/-- A mark outside the window of a running reference is a stray (R8). -/
theorem takeReferenceMark_outside {s : State} {j : JobRecord} {p : Nat} (hrun : ReferenceRuns s) (hj : creatingJob s = some j)
    (hp : s.pos.ref.newestStart = some p)
    (hout : s.pos.linePos + j.halfWindow < p + j.length ∨ p + j.length + j.halfWindow < s.pos.linePos) :
    takeReferenceMark s = refStray s := by
  have hin : inWindow s.pos.linePos { centre := p + j.length, halfWidth := j.halfWindow } = false := by
    rw [Bool.eq_false_iff]
    simp only [inWindow, ne_eq, Bool.and_eq_true, decide_eq_true_eq, not_and, not_le]
    omega
  have hwin : refWindow s = some { centre := p + j.length, halfWidth := j.halfWindow } := by
    rcases hrun with h | h | h <;> simp [refWindow, hasWindow, h, hj, hp]
  rcases hrun with h | h | h <;> simp [takeReferenceMark, h, hwin, hj, hin]

/-- Settles O6. -/
theorem referenceMarkIgnoredOrStray : Obligations.ReferenceMarkIgnoredOrStray := by
  intro s hr hc hset
  constructor
  · intro hidle
    exact exec_referenceMark_of_settled hr (asEvent_of_unchanged hc (by simp [takeReferenceMark, hidle])) hset
  · intro j p hrun hj hp hout
    have hmark := takeReferenceMark_outside hrun hj hp hout
    refine exec_referenceMark_of_settled hr (t := refStray s) ?_ ?_
    · rw [asEvent_of_granted (by simp [hmark]) hc (by simpa [hmark] using hc), hmark]
    · exact hset.of_registered (registered_congr rfl rfl rfl rfl rfl rfl rfl) rfl

/-! ### A splice edge outside every known span (R13, R14) -/

/-- SPLICE_EDGE is its own effect where it changes neither the granted speed nor the embosser's mark and leaves a settled state. -/
theorem exec_spliceEdge_of_settled {s t : State} (hr : s.pins.resetLow = false) (hc : s.model.embossNoticed = false)
    (ht : takeSplice s = t) (hsp : t.speed = s.speed) (hm : t.model = s.model) (hset : Settled t) : exec .spliceEdge s = .next t := by
  subst ht
  rw [exec, execSpliceEdge, unlessReset_of_high hr, asEvent_of_granted (by rw [hsp]) hc (by rw [hm, hc]), takeDue_of_settled hset]

/-- An insertion by value keeps an ascending list ascending. -/
theorem insertBy_pairwise_le (p : Nat) {l : List Nat} (h : l.Pairwise (· ≤ ·)) : (insertBy id p l).Pairwise (· ≤ ·) := by
  induction l with
  | nil => simp [insertBy]
  | cons y ys ih =>
    obtain ⟨hy, hys⟩ := List.pairwise_cons.mp h
    unfold insertBy
    split
    · next hlt =>
      refine List.pairwise_cons.mpr ⟨fun z hz => ?_, h⟩
      rcases List.mem_cons.mp hz with rfl | hz
      · exact Nat.le_of_lt hlt
      · exact Nat.le_trans (Nat.le_of_lt hlt) (hy z hz)
    · next hge =>
      refine List.pairwise_cons.mpr ⟨fun z hz => ?_, ih hys⟩
      rcases List.mem_cons.mp ((insertBy_perm id p ys).mem_iff.mp hz) with rfl | hz
      · exact Nat.le_of_not_lt hge
      · exact hy z hz

/-- A splice edge in no known span (R14). -/
theorem takeSplice_outside {s : State} (hh : s.jobs.head.isSome = true)
    (hout : s.map.ring.find? (inSpan (s.pos.linePos + s.jobs.geometry.dSp)) = none) :
    takeSplice s =
      if beforeOldest (s.pos.linePos + s.jobs.geometry.dSp) s then s
      else if s.pos.splices.contains (s.pos.linePos + s.jobs.geometry.dSp) then s
      else if s.pos.splices.length < Config.spliceListMax then
        s.withPos { s.pos with splices := insertBy id (s.pos.linePos + s.jobs.geometry.dSp) s.pos.splices }
      else raiseNotice .spliceListFull s := by
  simp [takeSplice, Option.isNone_iff_eq_none, Option.isSome_iff_ne_none.mp hh, hout]

/-- Settles O10. -/
theorem spliceEdgeEntersList : Obligations.SpliceEdgeEntersList := by
  intro s hr hc hset p
  have unchanged (h : takeSplice s = s) : exec .spliceEdge s = .next s := exec_spliceEdge_of_settled hr hc h rfl rfl hset
  have hcap : Config.spliceListMax = 4 := rfl
  refine ⟨fun hh => unchanged (by simp [takeSplice, hh]), fun n hh hn hs => unchanged ?_, fun hh hout => ?_⟩
  · simp [takeSplice, Option.isNone_iff_eq_none, Option.isSome_iff_ne_none.mp hh, show s.map.ring.find? (inSpan (s.pos.linePos + s.jobs.geometry.dSp)) = some n from hn, hs]
  · have heq := takeSplice_outside hh (List.find?_eq_none.mpr fun r hr => by simpa using hout r hr)
    refine ⟨fun ⟨r, hold, hlt⟩ => unchanged ?_, fun hold => ?_⟩
    · rw [heq, if_pos (by simpa [beforeOldest, hold] using hlt)]
    · have hnot : beforeOldest p s = false := by
        unfold beforeOldest
        split
        · rfl
        · next r h => simpa using hold r h
      rw [if_neg (by simpa [p] using hnot)] at heq
      refine ⟨fun hin => unchanged ?_, fun hnin hlen => ⟨insertBy id p s.pos.splices, ?_, insertBy_perm _ _ _, insertBy_pairwise_le p⟩,
        fun hnin hlen => ?_⟩
      · rw [heq, if_pos (by simpa using hin)]
      · rw [if_neg (by simpa using hnin), if_pos (by omega)] at heq
        exact exec_spliceEdge_of_settled hr hc heq rfl rfl (hset.of_registered (registered_congr rfl rfl rfl rfl rfl rfl rfl) rfl)
      · rw [if_neg (by simpa using hnin), if_neg (by omega)] at heq
        exact exec_spliceEdge_of_settled hr hc heq rfl rfl (hset.of_registered (registered_congr rfl rfl rfl rfl rfl rfl rfl) rfl)

end Sys2Proof.Machine

/-! What the operations write into the ring, the positions and the job slots: the layer that the laws of every step rest on. -/

namespace Sys2Proof.Machine

open Sys2Proof

/-! ### What the stations and the nip leave of the web map -/

/-- The web map without what the stations and the nip write into its records. -/
def printedMap (s : State) : WebMap := { s.map with ring := s.map.ring.map Repeat.printed }

theorem printedMap_of_map {s t : State} (h : t.map = s.map) : printedMap t = printedMap s := by rw [printedMap, h, printedMap]

@[simp] theorem setStation_printedMap (st : Station) (r : StationRecord) (s : State) :
    printedMap (setStation st r s) = printedMap s := rfl

@[simp] theorem advanceCursor_printedMap (st : Station) (s : State) : printedMap (advanceCursor st s) = printedMap s := rfl

@[simp] theorem deferMiss_printedMap (st : Station) (s : State) : printedMap (deferMiss st s) = printedMap s := rfl

@[simp] theorem startStation_printedMap (st : Station) (rec : Repeat) (s : State) :
    printedMap (startStation st rec s) = printedMap s := rfl

@[simp] theorem stationStray_printedMap (st : Station) (s : State) : printedMap (stationStray st s) = printedMap s := rfl

@[simp] theorem placeWindow_printedMap (st : Station) (rec : Repeat) (s : State) :
    printedMap (placeWindow st rec s) = printedMap s := printedMap_of_map (by simp)

@[simp] theorem switchStation_printedMap (st : Station) (rec : Repeat) (s : State) :
    printedMap (switchStation st rec s) = printedMap s := printedMap_of_map (by simp)

/-- A change of one record that keeps a reading of it keeps that reading of the ring. -/
theorem updateRepeat_ring_map {β : Type} {g : Repeat → β} {f : Repeat → Repeat} (hf : ∀ r, g (f r) = g r) (n : Nat) (s : State) :
    (updateRepeat n f s).map.ring.map g = s.map.ring.map g := by
  simp only [updateRepeat_map, List.map_map]
  refine List.map_congr_left fun r _ => ?_
  simp only [Function.comp]
  split <;> simp [hf]

theorem updateRepeat_printedMap {f : Repeat → Repeat} (hf : ∀ r, (f r).printed = r.printed) (n : Nat) (s : State) :
    printedMap (updateRepeat n f s) = printedMap s := by
  unfold printedMap
  rw [updateRepeat_ring_map hf]
  rfl

@[simp] theorem writeResult_printedMap (st : Station) (n : Nat) (res : StationResult) (s : State) :
    printedMap (writeResult st n res s) = printedMap s :=
  updateRepeat_printedMap (f := fun r => { r with results := r.results.set st res }) (fun _ => rfl) n s

@[simp] theorem skipRecord_printedMap (st : Station) (n : Nat) (s : State) : printedMap (skipRecord st n s) = printedMap s := by
  rw [← writeResult_printedMap st n .skipped s]
  exact printedMap_of_map (by simp [skipRecord])

@[simp] theorem missRecord_printedMap (st : Station) (rec : Repeat) (s : State) : printedMap (missRecord st rec s) = printedMap s := by
  rw [← writeResult_printedMap st rec.serial .missed s]
  refine printedMap_of_map ?_
  unfold missRecord
  simp only [advanceCursor_map]
  split <;> simp

@[simp] theorem settleStation_printedMap (st : Station) (n : Nat) (s : State) : printedMap (settleStation st n s) = printedMap s := by
  induction n generalizing s with
  | zero => rfl
  | succ n ih =>
    unfold settleStation
    repeat' split
    all_goals simp [ih]

@[simp] theorem restStation_printedMap (st : Station) (s : State) : printedMap (restStation st s) = printedMap s :=
  settleStation_printedMap _ _ _

@[simp] theorem recheckStations_printedMap (s : State) : printedMap (recheckStations s) = printedMap s :=
  foldl_keeps _ _ (fun _ _ => restStation_printedMap _ _) _ _

@[simp] theorem stationMiss_printedMap (st : Station) (rec : Repeat) (s : State) : printedMap (stationMiss st rec s) = printedMap s := by
  simp [stationMiss]

@[simp] theorem stationWindowEnd_printedMap (st : Station) (s : State) : printedMap (stationWindowEnd st s) = printedMap s := by
  unfold stationWindowEnd
  repeat' split
  all_goals simp

@[simp] theorem station7Status_printedMap (n : Nat) (s : State) : printedMap (station7Status n s) = printedMap s := by
  simp only [station7Status]
  repeat' split
  all_goals simp

@[simp] theorem stationMatch_printedMap (st : Station) (rec : Repeat) (w : Window) (s : State) :
    printedMap (stationMatch st rec w s) = printedMap s := by
  rw [← writeResult_printedMap st rec.serial (.matched ((s.pos.linePos : Int) - w.centre)) s]
  unfold stationMatch
  simp only [restStation_printedMap]
  refine printedMap_of_map ?_
  simp only [advanceCursor_map, setStation_map]
  split <;> simp

@[simp] theorem takeStationMark_printedMap (st : Station) (s : State) : printedMap (takeStationMark st s) = printedMap s := by
  simp only [takeStationMark]
  repeat' split
  all_goals simp

@[simp] theorem stationAtCreation_printedMap (rec : Repeat) (s : State) (st : Station) :
    printedMap (stationAtCreation rec s st) = printedMap s := by
  unfold stationAtCreation
  repeat' split
  all_goals simp

@[simp] theorem stationsAtCreation_printedMap (rec : Repeat) (s : State) : printedMap (stationsAtCreation rec s) = printedMap s :=
  foldl_keeps _ _ (fun _ _ => stationAtCreation_printedMap _ _ _) _ _

@[simp] theorem writeEmboss_printedMap (rec : Repeat) (s : State) : printedMap (writeEmboss rec s) = printedMap s := by
  rw [← updateRepeat_printedMap (f := fun r => { r with emboss := nipStatus ((jobOf rec.job s).bind (·.emboss)).isSome s.emboss.state })
    (fun _ => rfl) rec.serial s]
  refine printedMap_of_map ?_
  unfold writeEmboss
  simp only
  split <;> simp

/-- A nip crossing moves the nip cursor on. -/
theorem passNip_printedMap (rec : Repeat) (s : State) :
    printedMap (passNip rec s) = { printedMap s with nipCursor := s.map.nipCursor + 1 } := by
  have h : printedMap (writeEmboss rec (removeLifts (fun l => l.endPos == rec.start + s.jobs.geometry.eNip && !endsAlone s l) s))
      = printedMap s := by rw [writeEmboss_printedMap]; exact printedMap_of_map (by simp)
  have hn : ∀ t u : State, printedMap t = printedMap u → t.map.nipCursor = u.map.nipCursor := fun t u e => by
    simpa only [printedMap] using congrArg WebMap.nipCursor e
  unfold passNip
  simp only [station7Status_printedMap]
  rw [← hn _ _ h, ← h]
  rfl

/-- The nip comes to rest at the same web map, but for its cursor, which moves forward. -/
theorem settleNip_printedMap (n : Nat) (s : State) :
    ∃ c, s.map.nipCursor ≤ c ∧ printedMap (settleNip n s) = { printedMap s with nipCursor := c } := by
  induction n generalizing s with
  | zero => exact ⟨_, Nat.le_refl _, rfl⟩
  | succ n ih =>
    unfold settleNip
    split
    · exact ⟨_, Nat.le_refl _, rfl⟩
    · next rec _ =>
      have ha : (arriveAtNip rec s).map = s.map := by simp
      simp only
      split
      · obtain ⟨c, hc, heq⟩ := ih (passNip rec (arriveAtNip rec s))
        rw [passNip_printedMap, printedMap_of_map ha, ha] at heq
        have hp : (passNip rec (arriveAtNip rec s)).map.nipCursor = s.map.nipCursor + 1 := by
          have := congrArg WebMap.nipCursor (passNip_printedMap rec (arriveAtNip rec s))
          rwa [ha] at this
        exact ⟨c, by omega, heq⟩
      · exact ⟨_, Nat.le_refl _, printedMap_of_map (by simp)⟩

theorem restNip_printedMap (s : State) :
    ∃ c, s.map.nipCursor ≤ c ∧ printedMap (restNip s) = { printedMap s with nipCursor := c } := settleNip_printedMap _ s

theorem nipCrossing_printedMap (s : State) :
    ∃ c, s.map.nipCursor ≤ c ∧ printedMap (nipCrossing s) = { printedMap s with nipCursor := c } := by
  unfold nipCrossing
  split
  · exact ⟨_, Nat.le_refl _, rfl⟩
  · next rec _ =>
    obtain ⟨c, hc, heq⟩ := restNip_printedMap (passNip rec s)
    have hp : (passNip rec s).map.nipCursor = s.map.nipCursor + 1 := congrArg WebMap.nipCursor (passNip_printedMap rec s)
    exact ⟨c, by omega, by rw [heq, passNip_printedMap]⟩

/-- The printed records fix every reading of the records that the stations and the nip do not write. -/
theorem ring_map_of_printedMap {β : Type} {g : Repeat → β} (hg : ∀ r, g r.printed = g r) {s t : State}
    (h : (printedMap t).ring = (printedMap s).ring) : t.map.ring.map g = s.map.ring.map g := by
  have heq := congrArg (List.map g) (show t.map.ring.map Repeat.printed = s.map.ring.map Repeat.printed from h)
  have hcomp : g ∘ Repeat.printed = g := funext hg
  rwa [List.map_map, List.map_map, hcomp] at heq

end Sys2Proof.Machine

/-! O54, the bounds that every step keeps: what one operation may do to them is `Keeps`, which is reflexive and transitive; each
operation of the model is shown to be one. -/

namespace Sys2Proof.Machine

open Sys2Proof

/-! ### The relation -/

/-- The path and the job slots agree, but for the emptiness of the path in SEEKING, which a creation out of SEEKING breaks until it
sets the reference to LOCKED (R44, R45). -/
def PathAgrees (s : State) : Prop :=
  (∀ n ∈ s.map.ring.map (·.job), (∃ h, s.jobs.head = some h ∧ h.record.number = n) ∨ ∃ t, s.jobs.tail = some t ∧ t.record.number = n)
    ∧ (∀ h t, s.jobs.head = some h → s.jobs.tail = some t → h.record.number ≠ t.record.number ∧ t.finalBoundary = none)
    ∧ ∀ h j, s.jobs.head = some h → armedJob s = some j → j.number ≠ h.record.number

/-- In SEEKING no job is in the path (R5, R45). -/
def SeekingClear (s : State) : Prop := s.pos.ref.state = .seeking → s.jobs.head = none ∧ s.jobs.tail = none

theorem pathSound_iff (s : State) : PathSound s ↔ PathAgrees s ∧ SeekingClear s := by
  simp only [PathSound, PathAgrees, SeekingClear, List.forall_mem_map, and_assoc]

/-- From `s` to `t` the bounds and the laws of the path are kept. -/
structure Keeps (s t : State) : Prop where
  position : PositionSound s → PositionSound t
  lists : ListsBounded s → ListsBounded t
  jobs : JobsSound s → JobsSound t
  path : JobsSound s → PathAgrees s → PathAgrees t
  generator : s.shade.generator ≠ 0 → t.shade.generator ≠ 0
  counters : CountersInRange s → CountersInRange t

theorem Keeps.refl (s : State) : Keeps s s := ⟨id, id, id, fun _ => id, id, id⟩

theorem Keeps.trans {s t u : State} (h : Keeps s t) (k : Keeps t u) : Keeps s u :=
  ⟨k.position ∘ h.position, k.lists ∘ h.lists, k.jobs ∘ h.jobs, fun hj => k.path (h.jobs hj) ∘ h.path hj,
    k.generator ∘ h.generator, k.counters ∘ h.counters⟩

/-- A fold of an operation that keeps the bounds keeps them. -/
theorem Keeps.foldl {α : Type} {f : State → α → State} (h : ∀ s a, Keeps s (f s a)) (xs : List α) (s : State) :
    Keeps s (xs.foldl f s) := by
  induction xs generalizing s with
  | nil => exact .refl s
  | cons a as ih => exact (h s a).trans (ih _)

/-! ### What each bound rests on -/

/-- The positions and the speed. -/
def travelView (s : State) := (s.pos.linePos, s.pos.highWater, s.pos.speed, s.pos.intervalStart)

/-- The bounded lists. -/
def listView (s : State) := (s.pos.splices, s.emboss.lifts, s.rolls.history, s.shade.batches, s.labels.queue)

/-- The job slots with the jobs of the records in the ring. -/
def pathView (s : State) := (s.jobs, s.map.ring.map (·.job))

/-- The generator and the two counters. -/
def counterView (s : State) := (s.shade.generator, s.rolls.nextRollId, s.shade.nextStamp)

theorem positionSound_of_view {s t : State} (h : travelView t = travelView s) (hs : PositionSound s) : PositionSound t := by
  simp only [travelView, Prod.mk.injEq] at h
  obtain ⟨h1, h2, h3, h4⟩ := h
  unfold PositionSound at hs ⊢
  rwa [h1, h2, h3, h4]

theorem listsBounded_of_view {s t : State} (h : listView t = listView s) (hs : ListsBounded s) : ListsBounded t := by
  simp only [listView, Prod.mk.injEq] at h
  obtain ⟨h1, h2, h3, h4, h5⟩ := h
  unfold ListsBounded at hs ⊢
  rwa [h1, h2, h3, h4, h5]

theorem armedJob_congr {s t : State} (h : t.jobs = s.jobs) : armedJob t = armedJob s := by simp only [armedJob, h]

theorem creatingJob_congr {s t : State} (h : t.jobs = s.jobs) : creatingJob t = creatingJob s := by
  simp only [creatingJob, armedJob_congr h, h]

theorem jobsSound_of_jobs {s t : State} (h : t.jobs = s.jobs) (hs : JobsSound s) : JobsSound t := by
  unfold JobsSound at hs ⊢
  rwa [armedJob_congr h, h]

theorem pathAgrees_of_view {s t : State} (h : pathView t = pathView s) (hs : PathAgrees s) : PathAgrees t := by
  simp only [pathView, Prod.mk.injEq] at h
  obtain ⟨hj, hr⟩ := h
  unfold PathAgrees at hs ⊢
  rwa [armedJob_congr hj, hj, hr]

/-- An operation keeps what the bounds rest on, or keeps the bounds itself; the parts not given are those it does not write. -/
theorem Keeps.of {s t : State}
    (position : PositionSound s → PositionSound t := by exact positionSound_of_view (by simp [travelView]))
    (lists : ListsBounded s → ListsBounded t := by exact listsBounded_of_view (by simp [listView]))
    (jobs : JobsSound s → JobsSound t := by exact jobsSound_of_jobs (by simp))
    (path : JobsSound s → PathAgrees s → PathAgrees t := by exact fun _ => pathAgrees_of_view (by simp [pathView]))
    (counter : counterView t = counterView s ∨ (s.shade.generator ≠ 0 → t.shade.generator ≠ 0) ∧ (CountersInRange s → CountersInRange t)
      := by exact .inl (by simp [counterView])) : Keeps s t := by
  rcases counter with h | ⟨hg, hc⟩
  · simp only [counterView, Prod.mk.injEq] at h
    obtain ⟨h1, h2, h3⟩ := h
    exact ⟨position, lists, jobs, path, by rw [h1]; exact id, by unfold CountersInRange; rw [h2, h3]; exact id⟩
  · exact ⟨position, lists, jobs, path, hg, hc⟩

/-- The records that only the stations and the nip wrote into keep their jobs. -/
theorem pathView_of_printedMap {s t : State} (hj : t.jobs = s.jobs) (h : (printedMap t).ring = (printedMap s).ring) :
    pathView t = pathView s := by
  rw [pathView, hj, ring_map_of_printedMap (g := (·.job)) (fun _ => rfl) h, pathView]

/-- A change of the bounded lists alone, one by one within their places. -/
theorem listsBounded_mono {s t : State} (h1 : t.pos.splices.length ≤ max s.pos.splices.length Config.spliceListMax)
    (h2 : s.emboss.lifts.length ≤ Config.liftListMax → t.emboss.lifts.length ≤ Config.liftListMax)
    (h3 : s.rolls.history.length ≤ Config.historyMax → t.rolls.history.length ≤ Config.historyMax)
    (h4 : t.shade.batches.length ≤ max s.shade.batches.length Config.batchMax)
    (h5 : t.labels.queue.length ≤ max s.labels.queue.length Config.labelMax) (hs : ListsBounded s) : ListsBounded t := by
  obtain ⟨b1, b2, b3, b4, b5⟩ := hs
  exact ⟨by omega, h2 b2, h3 b3, by omega, by omega⟩

/-! ### Stations, notices and the nip -/

theorem Keeps.advanceDraws (n : Nat) (s : State) : Keeps s (advanceDraws n s) := .of

theorem Keeps.stationWindowEnd (st : Station) (s : State) : Keeps s (stationWindowEnd st s) :=
  .of (path := fun _ => pathAgrees_of_view (pathView_of_printedMap (by simp) (by simp)))

theorem Keeps.takeStationMark (st : Station) (s : State) : Keeps s (takeStationMark st s) :=
  .of (path := fun _ => pathAgrees_of_view (pathView_of_printedMap (by simp) (by simp)))

theorem Keeps.recheckStations (s : State) : Keeps s (recheckStations s) :=
  .of (path := fun _ => pathAgrees_of_view (pathView_of_printedMap (by simp) (by simp)))

theorem Keeps.stationsAtCreation (rec : Repeat) (s : State) : Keeps s (stationsAtCreation rec s) :=
  .of (path := fun _ => pathAgrees_of_view (pathView_of_printedMap (by simp) (by simp)))

@[simp] theorem retestCauses_lifts (s : State) : (retestCauses s).emboss.lifts = s.emboss.lifts := by rw [retestCauses_emboss]

/-- Splice lifts end by leaving the list; the others keep their order (R89). -/
theorem removeLifts_lifts (p : SpliceLift → Bool) (s : State) :
    (removeLifts p s).emboss.lifts = s.emboss.lifts.filter fun l => !(l.state == .inForce && p l) := by
  unfold removeLifts
  split
  · simp
  · next h =>
    refine (List.filter_eq_self.mpr fun l hl => ?_).symm
    simp only [List.any_eq_true, not_exists, not_and] at h
    simpa [imp_iff_not_or] using h l hl

theorem removeLifts_lifts_length (p : SpliceLift → Bool) (s : State) : (removeLifts p s).emboss.lifts.length ≤ s.emboss.lifts.length := by
  rw [removeLifts_lifts]
  exact List.length_filter_le _ _

@[simp] theorem settleStep_lifts (s : State) : (settleStep s).emboss.lifts = s.emboss.lifts := by
  unfold settleStep
  split <;> simp

@[simp] theorem writeEmboss_lifts (rec : Repeat) (s : State) : (writeEmboss rec s).emboss.lifts = s.emboss.lifts := by
  simp only [writeEmboss]
  split <;> simp

@[simp] theorem beginSettling_lifts (s : State) : (beginSettling s).emboss.lifts = s.emboss.lifts := by
  unfold beginSettling
  split <;> simp

@[simp] theorem lowerSettle_lifts (s : State) : (lowerSettle s).emboss.lifts = s.emboss.lifts := by
  unfold lowerSettle
  split <;> simp

@[simp] theorem switchNipJob_lifts (rec : Repeat) (s : State) : (switchNipJob rec s).emboss.lifts = s.emboss.lifts := by
  simp only [switchNipJob]
  repeat' split
  all_goals simp

@[simp] theorem arriveAtNip_lifts (rec : Repeat) (s : State) : (arriveAtNip rec s).emboss.lifts = s.emboss.lifts := by
  unfold arriveAtNip
  split <;> simp

/-- The splice lifts that end at the nip crossing leave the list (R89). -/
theorem passNip_lifts (rec : Repeat) (s : State) : (passNip rec s).emboss.lifts
    = s.emboss.lifts.filter fun l => !(l.state == .inForce && (l.endPos == rec.start + s.jobs.geometry.eNip && !endsAlone s l)) := by
  simp only [passNip, station7Status_emboss, State.withEmboss_emboss, writeEmboss_lifts, removeLifts_lifts]

theorem settleNip_lifts (n : Nat) (s : State) : (settleNip n s).emboss.lifts.Sublist s.emboss.lifts := by
  induction n generalizing s with
  | zero => exact .refl _
  | succ n ih =>
    unfold settleNip
    split
    · exact .refl _
    · simp only
      split
      · refine (ih _).trans ?_
        rw [passNip_lifts, arriveAtNip_lifts]
        exact List.filter_sublist
      · simp

theorem restNip_lifts (s : State) : (restNip s).emboss.lifts.Sublist s.emboss.lifts := settleNip_lifts _ s

theorem nipCrossing_lifts (s : State) : (nipCrossing s).emboss.lifts.Sublist s.emboss.lifts := by
  unfold nipCrossing
  split
  · exact .refl _
  · refine (restNip_lifts _).trans ?_
    rw [passNip_lifts]
    exact List.filter_sublist

/-- A change of the splice lift list alone. -/
theorem listsBounded_of_lifts {s t : State} (h : t.emboss.lifts.length ≤ s.emboss.lifts.length) (h1 : t.pos.splices = s.pos.splices)
    (h3 : t.rolls.history = s.rolls.history) (h4 : t.shade.batches = s.shade.batches) (h5 : t.labels.queue = s.labels.queue) :
    ListsBounded s → ListsBounded t :=
  listsBounded_mono (by rw [h1]; omega) (fun b => h.trans b) (by rw [h3]; exact id) (by rw [h4]; omega) (by rw [h5]; omega)

theorem Keeps.restNip (s : State) : Keeps s (restNip s) := by
  obtain ⟨c, -, hc⟩ := restNip_printedMap s
  exact .of (lists := listsBounded_of_lifts (restNip_lifts s).length_le (by simp) (by simp) (by simp) (by simp))
    (path := fun _ => pathAgrees_of_view (pathView_of_printedMap (by simp) (by rw [hc])))

theorem Keeps.nipCrossing (s : State) : Keeps s (nipCrossing s) := by
  obtain ⟨c, -, hc⟩ := nipCrossing_printedMap s
  exact .of (lists := listsBounded_of_lifts (nipCrossing_lifts s).length_le (by simp) (by simp) (by simp) (by simp))
    (path := fun _ => pathAgrees_of_view (pathView_of_printedMap (by simp) (by rw [hc])))

theorem Keeps.liftStart (n : Nat) (s : State) : Keeps s (liftStart n s) :=
  .of (lists := listsBounded_of_lifts (by simp [Machine.liftStart]) (by simp) (by simp) (by simp) (by simp))

theorem Keeps.liftEnd (n : Nat) (s : State) : Keeps s (liftEnd n s) :=
  .of (lists := listsBounded_of_lifts (removeLifts_lifts_length _ s) (by simp) (by simp) (by simp) (by simp))

theorem Keeps.retestCauses (s : State) : Keeps s (retestCauses s) := .of (lists := listsBounded_of_view (by simp [listView]))

/-- The lift list with a further lift keeps its places (R88). -/
theorem Keeps.placeLift (rec : Repeat) (s : State) : Keeps s (placeLift rec s) := by
  refine .of (lists := listsBounded_mono (by simp) ?_ (by simp) (by simp) (by simp))
  simp only [Machine.placeLift]
  repeat' split
  · exact id
  · simpa using enterLift_length_le
  · exact id

end Sys2Proof.Machine

/-! O54 at the knife: the fold, the cuts and closes, retirement with JOB_CLEAR, and the knife crossing. -/

namespace Sys2Proof.Machine

open Sys2Proof

/-! ### Grading and closing -/

/-- The entry stamp stays from 1 to 2^32 - 1 (R138). -/
theorem nextStampAfter_range (n : Nat) : 1 ≤ nextStampAfter n ∧ nextStampAfter n ≤ 2 ^ 32 - 1 := by
  have : Config.max32 = 2 ^ 32 - 1 := rfl
  unfold nextStampAfter
  split <;> omega

/-- The roll id counter stays from 1 to 2^32 - 1 (R99). -/
theorem nextRollIdAfter_range (n : Nat) : 1 ≤ nextRollIdAfter n ∧ nextRollIdAfter n ≤ 2 ^ 32 - 1 := by
  have : Config.max32 = 2 ^ 32 - 1 := rfl
  unfold nextRollIdAfter
  split <;> omega

theorem withBatchCounter_batches (tag v : Nat) (s : State) : (withBatchCounter tag v s).batches = s.shade.batches := by
  unfold withBatchCounter; split <;> rfl

theorem withBatchCounter_generator (tag v : Nat) (s : State) : (withBatchCounter tag v s).generator = s.shade.generator := by
  unfold withBatchCounter; split <;> rfl

/-- A batch is opened only while the table has a place (R134, R138). -/
theorem Keeps.openBatch (v : Shade) (j : JobRecord) (n : Nat) {s : State} (h : s.shade.batches.length < Config.batchMax) :
    Keeps s (openBatch v j n s).2 := by
  refine .of (lists := listsBounded_mono (by simp) (by simp) (by simp) ?_ (by simp)) (counter := .inr ⟨?_, ?_⟩)
  · simp only [Machine.openBatch, raiseNotice_shade, State.withShade_shade, withBatchCounter_batches, List.length_append,
      List.length_singleton]
    omega
  · simp only [Machine.openBatch, raiseNotice_shade, State.withShade_shade, withBatchCounter_generator]
    exact id
  · rintro ⟨h1, h2, -, -⟩
    exact ⟨by simpa using h1, by simpa using h2, nextStampAfter_range _⟩

theorem Keeps.joinBatch (b : BatchEntry) (e : HistoryEntry) (j : JobRecord) (s : State) : Keeps s (joinBatch b e j s).2 := by
  refine .of (lists := listsBounded_mono (by simp) (by simp) (by simp) ?_ (by simp)) (counter := .inl ?_) <;>
    simp [Machine.joinBatch, counterView]

theorem Keeps.matchBatch (v : Shade) (e : HistoryEntry) (j : JobRecord) (s : State) : Keeps s (matchBatch v e j s).2 := by
  unfold Machine.matchBatch
  split
  · exact .joinBatch _ _ _ _
  · split
    · next n hn =>
      split at hn
      · next hlt => exact (Keeps.openBatch v j n hlt).trans (.joinBatch _ _ _ _)
      · exact absurd hn (by simp)
    · exact .of

theorem Keeps.gradeRoll (e : HistoryEntry) (s : State) : Keeps s (gradeRoll e s).2 := by
  simp only [Machine.gradeRoll]
  split
  · exact .refl s
  · split
    · exact .refl s
    · split
      · exact .matchBatch _ _ _ _
      · exact .refl s

/-- A label joins the queue only while it has a place (R148). -/
theorem queueLabel_length (r : LabelRecord) (s : State) :
    (queueLabel r s).2.labels.queue.length ≤ max s.labels.queue.length Config.labelMax := by
  simp only [queueLabel]
  split
  · split <;> simp <;> omega
  · simp

theorem Keeps.queueLabel (r : LabelRecord) (s : State) : Keeps s (queueLabel r s).2 :=
  .of (lists := listsBounded_mono (by simp) (by simp) (by simp) (by simp) (queueLabel_length r s))

@[simp] theorem claimAfterClose_queue (s : State) : (claimAfterClose s).labels.queue = s.labels.queue := by
  unfold claimAfterClose; split <;> rfl

theorem Keeps.claimAfterClose (s : State) : Keeps s (claimAfterClose s) := .of (lists := listsBounded_of_view (by simp [listView]))

/-- A roll joins the history in its place (R105, R108). -/
theorem Keeps.joinHistory (e : HistoryEntry) (s : State) :
    Keeps s (s.withRolls { s.rolls with history := joinHistory e s.rolls.history }) :=
  .of (lists := listsBounded_mono (by simp) (by simp) joinHistory_length_le (by simp) (by simp))

theorem Keeps.setLane (l : Lane) (r : LaneRecord) (s : State) : Keeps s (setLane l r s) :=
  .of (lists := listsBounded_of_view (by simp [listView, Machine.setLane])) (counter := .inl (by simp [counterView, Machine.setLane]))

theorem Keeps.raiseNotice (k : NoticeKind) (s : State) : Keeps s (raiseNotice k s) := .of

theorem Keeps.closeRoll (l : Lane) (k : RollKind) (r : CloseReason) (s : State) : Keeps s (closeRoll l k r s) := by
  unfold Machine.closeRoll
  exact (Keeps.gradeRoll _ _).trans <| (Keeps.queueLabel _ _).trans <| (Keeps.claimAfterClose _).trans <|
    (Keeps.joinHistory _ _).trans <| (Keeps.setLane _ _ _).trans (.raiseNotice _ _)

theorem Keeps.takeRollId (l : Lane) (s : State) : Keeps s (takeRollId l s) := by
  simp only [Machine.takeRollId]
  split
  · exact .refl s
  · refine .of (lists := listsBounded_of_view (by simp [listView])) (counter := .inr ⟨id, ?_⟩)
    rintro ⟨-, -, h3, h4⟩
    exact ⟨(nextRollIdAfter_range _).1, (nextRollIdAfter_range _).2, h3, h4⟩

/-! ### The knife acts (R97) -/

theorem Keeps.foldLane (k : Repeat) (s : State) (l : Lane) : Keeps s (foldLane k s l) := by
  simp only [Machine.foldLane]
  split
  · exact .refl s
  · refine (Keeps.takeRollId l s).trans ?_
    split
    · exact (Keeps.setLane _ _ _).trans (.advanceDraws _ _)
    · exact .setLane _ _ _

theorem Keeps.cutLane (l : Lane) (r : CloseReason) (s : State) : Keeps s (cutLane l r s) := by
  simp only [Machine.cutLane]
  split
  · exact .refl s
  · exact (Keeps.of : Keeps s (strobe l s)).trans ((Keeps.closeRoll _ _ _ _).trans (.setLane _ _ _))

theorem Keeps.decideCut (f : Bool) (k : Repeat) (n : Option Repeat) (s : State) (l : Lane) : Keeps s (decideCut f k n s l) := by
  unfold Machine.decideCut
  split
  · exact .refl s
  · split
    · exact .refl s
    · exact .cutLane _ _ _

theorem Keeps.foldAndCut (f : Bool) (k : Repeat) (n : Option Repeat) (s : State) : Keeps s (foldAndCut f k n s) :=
  (Keeps.foldl (Keeps.foldLane k) _ _).trans (Keeps.foldl (Keeps.decideCut f k n) _ _)

/-- The oldest record leaves the ring. -/
theorem Keeps.dropOldest (s : State) (m c : Nat) :
    Keeps s (s.withMap { s.map with ring := s.map.ring.drop 1, retired := m, knifeCursor := c }) :=
  .of (path := fun _ ⟨ha, hb⟩ => ⟨fun n hn => ha n (List.mem_of_mem_drop (i := 1) (by rwa [← List.map_drop])), hb⟩)

/-- JOB_CLEAR empties the tail slot; the records that remain are of the head job (R52). -/
theorem jobClear_fields (tag : Nat) (s : State) :
    (jobClear tag s).jobs = { s.jobs with tail := none }
      ∧ (∃ l, l.length ≤ s.pos.splices.length ∧ (jobClear tag s).pos = { s.pos with splices := l })
      ∧ (jobClear tag s).shade.batches.length = s.shade.batches.length
      ∧ (jobClear tag s).shade.generator = s.shade.generator ∧ (jobClear tag s).shade.nextStamp = s.shade.nextStamp := by
  simp only [jobClear]
  split <;>
    refine ⟨by simp, ?_, by simp [batchesAtJobClear], by simp [batchesAtJobClear], by simp [batchesAtJobClear]⟩
  · exact ⟨[], Nat.zero_le _, by simp⟩
  · exact ⟨_, Nat.le_refl _, by simp⟩

theorem armedJob_of_staged {s t : State} (h : t.jobs.staged = s.jobs.staged) : armedJob t = armedJob s := by
  simp only [armedJob, h]

theorem Keeps.jobClear {tag : Nat} {s : State} (hc : clearsTail tag s = true) : Keeps s (jobClear tag s) := by
  obtain ⟨hj, ⟨l, hl, hp⟩, hb, hg, hn⟩ := jobClear_fields tag s
  have harm : armedJob (Machine.jobClear tag s) = armedJob s := armedJob_of_staged (by rw [hj])
  simp only [clearsTail, Bool.and_eq_true, beq_iff_eq, Bool.not_eq_true', List.any_eq_false] at hc
  obtain ⟨htail, hring⟩ := hc
  refine .of (position := positionSound_of_view (by simp [travelView, hp]))
    (lists := listsBounded_mono (by rw [hp]; simp; omega) (by simp) (by simp) (by omega) (by simp))
    (jobs := fun ⟨h1, _, h3, h4, _⟩ => ?_) (path := fun _ ⟨ha, _, hd⟩ => ?_) (counter := .inl (by simp [counterView, hg, hn]))
  · exact ⟨by rwa [hj], by rw [hj]; exact fun h => (nomatch h), by rwa [hj], by rwa [hj], by rw [hj]; exact fun _ h => (nomatch h)⟩
  · refine ⟨fun n hn => ?_, by rw [hj]; exact fun _ _ _ h => (nomatch h), by rwa [harm, hj]⟩
    rw [jobClear_map] at hn
    rcases ha n hn with hh | ⟨t, ht, htn⟩
    · rw [hj]; exact .inl hh
    · obtain ⟨r, hr, hrn⟩ := List.mem_map.mp hn
      rw [ht, Option.map_some, Option.some.injEq] at htail
      exact absurd (hrn.trans (htn.symm.trans htail)) (by simpa using hring r hr)

theorem Keeps.retire (k : Repeat) (s : State) : Keeps s (retire k s) := by
  simp only [Machine.retire]
  split
  · next hc => exact (Keeps.dropOldest s _ _).trans (.jobClear hc)
  · exact .dropOldest s _ _

theorem Keeps.takeUpJob (rec : Repeat) (s : State) : Keeps s (takeUpJob rec s) := by
  unfold Machine.takeUpJob
  split
  · exact .refl s
  · exact .of (lists := listsBounded_of_view (by simp [listView])) (counter := .inl (by simp [counterView]))

theorem Keeps.lanesIdle (s : State) : Keeps s (lanesIdle s) :=
  .of (lists := listsBounded_of_view (by simp [listView, Machine.lanesIdle])) (counter := .inl (by simp [counterView, Machine.lanesIdle]))

theorem Keeps.withKnifeReg (r : Option KnifeReg) (s : State) : Keeps s (s.withRolls { s.rolls with knifeReg := r }) :=
  .of (lists := listsBounded_of_view (by simp [listView])) (counter := .inl (by simp [counterView]))

theorem Keeps.switchLanes (f : Bool) (n : Option Repeat) (s : State) : Keeps s (switchLanes f n s) := by
  unfold Machine.switchLanes
  split
  · exact .lanesIdle s
  · split
    · exact .refl s
    · split
      · exact .takeUpJob _ _
      · exact .refl s

theorem Keeps.actAtKnife (kind : KnifeKind) (k : Repeat) (s : State) : Keeps s (actAtKnife kind k s) := by
  unfold Machine.actAtKnife
  exact (Keeps.withKnifeReg none s).trans <| (Keeps.foldAndCut _ _ _ _).trans <| (Keeps.retire _ _).trans (.switchLanes _ _ _)

theorem Keeps.settleKnife (n : Nat) (s : State) : Keeps s (settleKnife n s) := by
  induction n generalizing s with
  | zero => exact .withKnifeReg _ s
  | succ n ih =>
    unfold Machine.settleKnife
    split
    · split
      · exact (Keeps.actAtKnife _ _ s).trans (ih _)
      · exact .withKnifeReg _ s
    · exact .withKnifeReg _ s

theorem Keeps.restKnife (s : State) : Keeps s (restKnife s) := .settleKnife _ s

theorem Keeps.knifeCrossing (s : State) : Keeps s (knifeCrossing s) := by
  unfold Machine.knifeCrossing
  split
  · exact (Keeps.actAtKnife _ _ s).trans (.restKnife _)
  · exact .withKnifeReg _ s

theorem Keeps.knifeAtCreation (rec : Repeat) (s : State) : Keeps s (knifeAtCreation rec s) := by
  unfold Machine.knifeAtCreation
  split
  · refine Keeps.trans ?_ (.restKnife _)
    split
    · exact .takeUpJob _ _
    · exact .refl s
  · split
    · exact .restKnife s
    · exact .refl s

end Sys2Proof.Machine

/-! O54 at a creation, at the inputs, and at every crossing. -/

namespace Sys2Proof.Machine

open Sys2Proof

/-! ### The generator (R120) -/

/-- The generator never steps to 0: its bits 0 to 8 move up, and bit 9 comes back as bit 0 when bit 6 is clear (R120). -/
theorem stepGenerator_ne_zero {g : BitVec 10} (hg : g ≠ 0) : stepGenerator g ≠ 0 := by
  intro h0
  have bit (i : Nat) : (stepGenerator g).getLsbD i = false := by rw [h0]; exact BitVec.getLsbD_zero
  have low (i : Nat) (hi : i < 9) : g.getLsbD i = false := by
    have := bit (i + 1)
    simp only [stepGenerator, BitVec.getLsbD_or, BitVec.getLsbD_shiftLeft, Bool.or_eq_false_iff, Bool.and_eq_false_iff] at this
    rcases this.1 with h | h
    · rcases h with h | h
      · simp at h; omega
      · simp at h
    · simpa using h
  have high : g.getLsbD 9 = false := by
    have := bit 0
    rw [stepGenerator, low 6 (by omega)] at this
    cases h9 : g.getLsbD 9 <;> simp [h9] at this ⊢
  refine hg (BitVec.eq_of_getLsbD_eq fun i hi => ?_)
  rw [show BitVec.getLsbD 0 i = false from BitVec.getLsbD_zero]
  rcases Nat.lt_or_ge i 9 with h | h
  · exact low i h
  · obtain rfl : i = 9 := by omega
    exact high

/-! ### Splices (R13 to R17) -/

theorem Keeps.flagSplice (n : Repeat) (s : State) : Keeps s (flagSplice n s) := by
  unfold Machine.flagSplice
  split
  · exact .refl s
  · next j _ =>
    refine Keeps.trans ?_ ((Keeps.raiseNotice .spliceSeen _).trans ((Keeps.placeLift n _).trans (.recheckStations _)))
    exact .of (path := fun _ => pathAgrees_of_view (by simp [pathView, flagRecord, Function.comp_def]))

/-- Splice positions leave the list, or it is as it was. -/
theorem Keeps.withSplices {l : List Nat} {s : State} (h : l.length ≤ max s.pos.splices.length Config.spliceListMax) :
    Keeps s (s.withPos { s.pos with splices := l }) :=
  .of (position := positionSound_of_view (by simp [travelView]))
    (lists := listsBounded_mono h (by simp) (by simp) (by simp) (by simp))

theorem Keeps.resolveSplices (s : State) : Keeps s (resolveSplices s) := by
  unfold Machine.resolveSplices
  split
  · exact .refl s
  · split
    · exact (Keeps.withSplices (le_trans (List.length_filter_le _ _) (le_max_left _ _))).trans (.flagSplice _ _)
    · exact .refl s

theorem Keeps.takeSplice (s : State) : Keeps s (takeSplice s) := by
  simp only [Machine.takeSplice]
  repeat' split
  · exact .refl s
  · exact .refl s
  · exact .flagSplice _ s
  · exact .refl s
  · exact .refl s
  · refine .withSplices ?_
    rw [insertBy_length]
    omega
  · exact .raiseNotice _ s

/-! ### Creation (R11) -/

/-- A change of the records that keeps their jobs. -/
theorem Keeps.updateRepeat {f : Repeat → Repeat} (hf : ∀ r, (f r).job = r.job) (n : Nat) (s : State) : Keeps s (updateRepeat n f s) :=
  .of (path := fun _ => pathAgrees_of_view (by rw [pathView, updateRepeat_ring_map hf, pathView]; rfl))

theorem Keeps.completeNewest (f : Repeat → Nat) (s : State) : Keeps s (completeNewest f s) := by
  unfold Machine.completeNewest
  split
  · exact .refl s
  · refine Keeps.trans ?_ (.resolveSplices _)
    exact .updateRepeat (fun _ => by rfl) _ _

theorem Keeps.takeSerial (s : State) : Keeps s (takeSerial s) := by
  have h : Keeps s (s.withPos { s.pos with nextSerial := serialAfter s.model.draws s.pos.nextSerial }) :=
    .of (position := positionSound_of_view (by simp [travelView])) (lists := listsBounded_of_view (by simp [listView]))
  simp only [Machine.takeSerial]
  split
  · exact h
  · exact h.trans (.advanceDraws _ _)

theorem armedJob_eq_some {s : State} {j : JobRecord} (h : armedJob s = some j) :
    ∃ g, s.jobs.staged = some g ∧ g.armed = true ∧ g.record = j := by
  unfold armedJob at h
  split at h
  · next g hg =>
    split at h
    · next ha => exact ⟨g, hg, ha, Option.some.inj h⟩
    · exact absurd h (by simp)
  · exact absurd h (by simp)

/-- The creating job keeps the ranges of R and W (R42). -/
theorem JobsSound.creating {s : State} (hs : JobsSound s) {j : JobRecord} (h : creatingJob s = some j) : GoodLengths j := by
  obtain ⟨-, -, hstaged, hhead, -⟩ := hs
  unfold creatingJob at h
  split at h
  · next a ha =>
    obtain ⟨g, hg, -, rfl⟩ := armedJob_eq_some ha
    exact (Option.some.inj h) ▸ hstaged g hg
  · obtain ⟨x, hx, rfl⟩ := Option.map_eq_some_iff.mp h
    exact hhead x hx

/-- With a job armed no tail job is in the path (R45). -/
theorem JobsSound.tail_none {s : State} (hs : JobsSound s) {j : JobRecord} (h : armedJob s = some j) : s.jobs.tail = none := by
  obtain ⟨-, htail, -⟩ := hs
  by_contra ht
  rw [htail (Option.isSome_iff_ne_none.mpr ht)] at h
  exact absurd h (by simp)

/-- The armed job becomes the head job and the head job the tail job (R47). -/
theorem switchJobs_jobs (j : JobRecord) (n : Nat) (s : State) : (switchJobs j n s).jobs =
    { s.jobs with
      staged := none
      head := some { record := j, firstSerial := n }
      tail := match s.jobs.head with
        | none => s.jobs.tail
        | some h => some { record := h.record, firstSerial := h.firstSerial, lastSerial := n - 1, finalBoundary := none } } := rfl

theorem Keeps.switchJobs {j : JobRecord} {s : State} (harm : armedJob s = some j) (m : Nat) : Keeps s (switchJobs j m s) := by
  have hnone : armedJob (Machine.switchJobs j m s) = none := rfl
  refine .of (lists := listsBounded_of_view (by simp [listView, Machine.switchJobs, shadeAtJobSwitch]))
    (jobs := fun hs => ?_) (path := fun hs ⟨ha, hb, hd⟩ => ?_)
    (counter := .inl (by simp [counterView, Machine.switchJobs, shadeAtJobSwitch]))
  · have hgood : GoodLengths j := hs.creating (by simp [creatingJob, harm])
    obtain ⟨h1, -, -, hhead, htail⟩ := hs
    refine ⟨h1, fun _ => hnone, fun _ h => (nomatch h), fun x hx => ?_, fun t ht => ?_⟩
    · obtain rfl := Option.some.inj hx
      exact hgood
    · rw [switchJobs_jobs] at ht
      cases hh : s.jobs.head with
      | none => simp only [hh] at ht; exact htail t ht
      | some x => simp only [hh] at ht; obtain rfl := Option.some.inj ht; exact hhead x hh
  · have htail : s.jobs.tail = none := hs.tail_none harm
    refine ⟨fun n hn => ?_, fun x t hx ht => ?_, fun x a _ h => absurd (hnone.symm.trans h) (by simp)⟩
    · rcases ha n hn with ⟨x, hx, hxn⟩ | ⟨t, ht, -⟩
      · refine .inr ⟨{ record := x.record, firstSerial := x.firstSerial, lastSerial := m - 1, finalBoundary := none }, ?_, hxn⟩
        rw [switchJobs_jobs]
        simp only [hx]
      · rw [htail] at ht; exact absurd ht (by simp)
    · obtain rfl := Option.some.inj hx
      rw [switchJobs_jobs] at ht
      cases hh : s.jobs.head with
      | none => simp only [hh, htail] at ht; exact absurd ht (by simp)
      | some y => simp only [hh] at ht; obtain rfl := Option.some.inj ht; exact ⟨hd y j hh harm, rfl⟩

/-- The job slots after the naming of the job at a creation (R47); the creating job is then the head job. -/
theorem nameJob_jobs {s : State} {j : JobRecord} (h : creatingJob s = some j) (n : Nat) :
    ∃ x, (nameJob (armedJob s) n s).jobs.head = some x ∧ x.record = j := by
  cases harm : armedJob s with
  | none =>
    rw [creatingJob, harm] at h
    obtain ⟨x, hx, rfl⟩ := Option.map_eq_some_iff.mp h
    exact ⟨x, hx, rfl⟩
  | some a =>
    rw [creatingJob, harm] at h
    obtain rfl := Option.some.inj h
    exact ⟨_, rfl, rfl⟩

theorem Keeps.nameJob {s t : State} (h : t.jobs = s.jobs) (n : Nat) : Keeps t (nameJob (armedJob s) n t) := by
  cases harm : armedJob s with
  | none => exact .refl t
  | some a => exact .switchJobs ((armedJob_congr h).trans harm) n

/-- A record of the head job joins the ring. -/
theorem Keeps.appendRepeat {s : State} {x : HeadJob} {rec : Repeat} (hx : s.jobs.head = some x) (hr : rec.job = x.record.number) :
    Keeps s (appendRepeat rec s) := by
  refine .of (path := fun _ ⟨ha, hb⟩ => ⟨fun n hn => ?_, hb⟩)
  simp only [Machine.appendRepeat, State.withMap_map, List.map_append, List.map_cons, List.map_nil, List.mem_append,
    List.mem_singleton] at hn
  rcases hn with hn | rfl
  · exact ha n hn
  · exact .inl ⟨x, hx, hr.symm⟩

theorem Keeps.designate (n : Nat) (s : State) : Keeps s (designate n s) := by
  simp only [Machine.designate]
  split
  · exact .refl s
  · next h _ =>
    have hdraw : Keeps s (if startsInterval n h.firstSerial h.record.sampleInterval then
        s.withShade (drawTarget n h.record.sampleInterval s.shade) else s) := by
      split
      · exact .of (lists := listsBounded_of_view (by simp [listView, drawTarget])) (counter := .inr ⟨stepGenerator_ne_zero, id⟩)
      · exact .refl s
    refine hdraw.trans ?_
    exact .updateRepeat (fun _ => by rfl) _ _

theorem Keeps.cursorsAtCreation (rec : Repeat) (s : State) : Keeps s (cursorsAtCreation rec s) := by
  simp only [Machine.cursorsAtCreation]
  refine (Keeps.stationsAtCreation rec s).trans (Keeps.trans ?_ (.knifeAtCreation rec _))
  split
  · exact .restNip _
  · exact .refl _

/-! #### The stages of a creation -/

/-- Steps 1 and 2 of R11 at `start`: the newest record is completed and resolved. -/
def completedAt (start : Nat) (s : State) : State := completeNewest (fun r => start - r.start) s

/-- Steps 3 and 4 of R11: the serial is taken and the job named. -/
def namedAt (start : Nat) (s : State) : State :=
  nameJob (armedJob (completedAt start s)) (completedAt start s).pos.nextSerial (takeSerial (completedAt start s))

/-- The record of step 5 of R11. -/
def recordAt (j : JobRecord) (start : Nat) (o : Origin) (res : StationResult) (s : State) : Repeat :=
  newRepeat j (completedAt start s).pos.nextSerial start o (armedJob (completedAt start s)).isSome res (namedAt start s).map.extent

/-- Step 5 of R11: the record has joined the ring. -/
def joinedAt (j : JobRecord) (start : Nat) (o : Origin) (res : StationResult) (s : State) : State :=
  appendRepeat (recordAt j start o res s) (namedAt start s)

/-- A creation is its stages, the waiting cursors and the designation. -/
theorem createRepeat_eq (j : JobRecord) (start : Nat) (o : Origin) (res : StationResult) (s : State) :
    createRepeat j start o res s = designate (completedAt start s).pos.nextSerial
      (cursorsAtCreation (recordAt j start o res s) (joinedAt j start o res s)) := rfl

@[simp] theorem completedAt_jobs (start : Nat) (s : State) : (completedAt start s).jobs = s.jobs := completeNewest_jobs _ _

theorem armedJob_completedAt (start : Nat) (s : State) : armedJob (completedAt start s) = armedJob s :=
  armedJob_congr (completedAt_jobs start s)

theorem namedAt_eq (start : Nat) (s : State) : namedAt start s =
    nameJob (armedJob (takeSerial (completedAt start s))) (completedAt start s).pos.nextSerial (takeSerial (completedAt start s)) := by
  rw [armedJob_congr (takeSerial_jobs _)]
  rfl

/-- The creating job is the head job once the job has been named. -/
theorem namedAt_head {s : State} {j : JobRecord} (h : creatingJob s = some j) (start : Nat) :
    ∃ x, (namedAt start s).jobs.head = some x ∧ x.record = j := by
  rw [namedAt_eq]
  exact nameJob_jobs ((creatingJob_congr ((takeSerial_jobs _).trans (completedAt_jobs start s))).trans h) _

theorem Keeps.namedAt (start : Nat) (s : State) : Keeps s (namedAt start s) := by
  rw [namedAt_eq]
  exact (Keeps.completeNewest _ s).trans ((Keeps.takeSerial _).trans (.nameJob rfl _))

/-- A creation by the creating job (R11). -/
theorem Keeps.createRepeat {j : JobRecord} {s : State} (h : creatingJob s = some j) (start : Nat) (o : Origin) (res : StationResult) :
    Keeps s (createRepeat j start o res s) := by
  rw [createRepeat_eq]
  obtain ⟨x, hx, hxj⟩ := namedAt_head h start
  exact (Keeps.namedAt start s).trans <| (Keeps.appendRepeat hx (by rw [hxj]; rfl)).trans <|
    (Keeps.cursorsAtCreation _ _).trans (.designate _ _)

/-! ### The reference (R4 to R10) -/

theorem Keeps.setRef (r : RefRecord) (s : State) : Keeps s (setRef r s) :=
  .of (position := positionSound_of_view (by simp [travelView, Machine.setRef]))
    (lists := listsBounded_of_view (by simp [listView, Machine.setRef]))

theorem Keeps.setSlot (k : Slot) (c : Option ClaimValue) (s : State) : Keeps s (setSlot k c s) := .of

theorem Keeps.markedRepeat {j : JobRecord} {s : State} (h : creatingJob s = some j) (err : Int) : Keeps s (markedRepeat j err s) := by
  simp only [Machine.markedRepeat]
  have hk := (Keeps.createRepeat h s.pos.linePos .marked (.matched err)).trans (.setRef
    { (Machine.createRepeat j s.pos.linePos .marked (.matched err) s).pos.ref with
      state := .locked, newestStart := some s.pos.linePos, synthRun := 0, lastError := err } _)
  split
  · exact hk.trans ((Keeps.setSlot _ _ _).trans (.raiseNotice _ _))
  · exact hk

theorem creatingJob_of_armed {s : State} {j : JobRecord} (h : armedJob s = some j) : creatingJob s = some j := by
  rw [creatingJob, h]

theorem Keeps.takeReferenceMark (s : State) : Keeps s (takeReferenceMark s) := by
  unfold Machine.takeReferenceMark
  repeat' split
  · exact .refl s
  · exact .refl s
  · next h => exact .markedRepeat (creatingJob_of_armed h) _
  all_goals first
    | exact .setRef _ s
    | next hc _ => exact .markedRepeat hc _

theorem Keeps.refWindowEnd (s : State) : Keeps s (refWindowEnd s) := by
  simp only [Machine.refWindowEnd]
  split
  · next w j _ hc =>
    have hk (r : RefRecord) := (Keeps.createRepeat hc w.centre .synth .missed).trans (.setRef r _)
    repeat' split
    · exact (hk _).trans (.setSlot _ _ _)
    · exact hk _
    · exact (hk _).trans ((Keeps.setSlot _ _ _).trans (.raiseNotice _ _))
    · exact hk _
  · exact .refl s

/-! ### Crossings and events -/

theorem Keeps.takeCrossing (c : Crossing) (s : State) : Keeps s (takeCrossing c s) := by
  cases c with
  | refWindowEnd => exact .refWindowEnd s
  | stationWindowEnd st => exact .stationWindowEnd st s
  | nip => exact .nipCrossing s
  | liftStart n => exact .liftStart n s
  | liftEnd n => exact .liftEnd n s
  | knife => exact .knifeCrossing s

theorem Keeps.withModel (m : ModelFields) (s : State) : Keeps s (s.withModel m) := .of

theorem Keeps.grantNoticed (s u : State) : Keeps u (grantNoticed s u) := by
  unfold Machine.grantNoticed
  split
  · exact .refl u
  · exact .raiseNotice _ u

/-- An event keeps the bounds when its effect does. -/
theorem Keeps.asEvent {f : State → State} (h : ∀ u, Keeps u (f u)) (s : State) : Keeps s (asEvent f s) := by
  rw [asEvent_eq]
  exact (Keeps.withModel _ s).trans <| (h _).trans <| (Keeps.grantNoticed s _).trans (.withModel _ _)

theorem Keeps.drainFuel (n : Nat) (s : State) : Keeps s (drainFuel n s) :=
  drainFuel_keeps (P := Keeps s) (fun _ h => h.trans (.advanceDraws 1 _)) (fun c _ h => h.trans (.asEvent (.takeCrossing c) _)) n s (.refl s)

theorem Keeps.drain (s : State) : Keeps s (drain s) := .drainFuel _ s

theorem Keeps.takeDue (s : State) : Keeps s (takeDue s) :=
  takeDue_keeps (P := Keeps s) (fun _ h => h.trans (.advanceDraws 1 _)) (fun c _ h => h.trans (.asEvent (.takeCrossing c) _)) s (.refl s)

theorem Keeps.takeRefEnds (n : Nat) (s : State) : Keeps s (takeRefEnds n s) :=
  takeRefEnds_keeps (P := Keeps s) (fun _ h => h.trans (.asEvent .refWindowEnd _)) n s (.refl s)

/-! ### The encoder and the interval timer (R1 to R3) -/

theorem movePosition_le {forward : Bool} {p : Nat} (h : p ≤ Config.lineMax) : movePosition forward p ≤ Config.lineMax := by
  unfold movePosition saturate
  split <;> omega

theorem Keeps.countEdge (forward : Bool) (s : State) : Keeps s (countEdge forward s) := by
  refine .of (position := fun ⟨h1, h2, h3, h4⟩ => ?_) (lists := listsBounded_of_view (by simp [listView, Machine.countEdge]))
  have hp := movePosition_le (forward := forward) (h1.trans h2)
  simp only [PositionSound, Machine.countEdge, State.withPos_pos]
  omega

theorem Keeps.takeEdge (e : EncoderEdge) (s : State) : Keeps s (takeEdge e s) := by
  simp only [Machine.takeEdge]
  split
  · exact .refl s
  · split
    · exact (Keeps.countEdge _ s).trans (.takeDue _)
    · exact .countEdge _ s

theorem Keeps.takeInterval (s : State) : Keeps s (takeInterval s) := by
  refine Keeps.trans ?_ (.retestCauses _)
  refine .of (position := fun ⟨h1, h2, _, _⟩ => ⟨h1, h2, saturate_le _ _, Nat.le_refl _⟩)
    (lists := listsBounded_of_view (by simp [listView]))

end Sys2Proof.Machine

/-! What the knife, a creation and a crossing leave of the positions, the job slots, the ring and the stations; and the law that no
job is in the path in SEEKING. -/

namespace Sys2Proof.Machine

open Sys2Proof

/-! ### The knife -/

/-- What any number of knife crossings may do, from `s` to `t`: splice positions may leave, the tail job may leave the path with its
stations, and the oldest records leave the ring as the knife cursor moves on (R31, R52, R97). -/
structure KnifeActs (s t : State) : Prop where
  pos : ∃ l, t.pos = { s.pos with splices := l }
  jobs : t.jobs = s.jobs ∨ t.jobs = { s.jobs with tail := none }
  ring : ∃ n, t.map.ring = s.map.ring.drop n
  nip : t.map.nipCursor = s.map.nipCursor
  knife : s.map.knifeCursor ≤ t.map.knifeCursor
  stations : ∀ st, t.register.get st = s.register.get st ∨ t.register.get st = StationRecord.off

theorem KnifeActs.refl (s : State) : KnifeActs s s :=
  ⟨⟨_, rfl⟩, .inl rfl, ⟨0, rfl⟩, rfl, Nat.le_refl _, fun _ => .inl rfl⟩

theorem KnifeActs.trans {s t u : State} (h : KnifeActs s t) (k : KnifeActs t u) : KnifeActs s u := by
  obtain ⟨l, hl⟩ := h.pos
  obtain ⟨m, hm⟩ := k.pos
  obtain ⟨a, ha⟩ := h.ring
  obtain ⟨b, hb⟩ := k.ring
  refine ⟨⟨m, by rw [hm, hl]⟩, ?_, ⟨a + b, by rw [hb, ha, List.drop_drop]⟩, k.nip.trans h.nip, h.knife.trans k.knife, fun st => ?_⟩
  · rcases k.jobs with e | e <;> rcases h.jobs with e' | e' <;> rw [e, e'] <;> simp
  · rcases k.stations st with e | e
    · rw [e]; exact h.stations st
    · exact .inr e

/-- An operation that writes none of these fields. -/
theorem KnifeActs.of_same {s t : State} (h1 : t.pos = s.pos) (h2 : t.jobs = s.jobs) (h3 : t.map = s.map)
    (h4 : t.register = s.register) : KnifeActs s t :=
  ⟨⟨_, h1⟩, .inl h2, ⟨0, by rw [h3]; rfl⟩, by rw [h3], by rw [h3], fun st => .inl (by rw [h4])⟩

@[simp] theorem stationOff_register (st : Station) (s : State) : (stationOff st s).register = s.register.set st StationRecord.off := by
  simp only [stationOff]
  split <;> simp [setStation]

/-- At JOB_CLEAR a station is OFF or as it was (R62). -/
theorem stationsAtJobClear_register (tag : Nat) (s : State) (st : Station) :
    (stationsAtJobClear tag s).register.get st = s.register.get st ∨ (stationsAtJobClear tag s).register.get st = StationRecord.off := by
  unfold stationsAtJobClear
  induction allStations generalizing s with
  | nil => exact .inl rfl
  | cons x xs ih =>
    rw [List.foldl_cons]
    rcases ih (if (s.register.get x).job = some tag then stationOff x s else s) with e | e
    · rw [e]
      split
      · rw [stationOff_register]
        by_cases hx : st = x
        · subst hx; exact .inr (PerStation.get_set_same _ _ _)
        · exact .inl (PerStation.get_set_other _ _ _ _ hx)
      · exact .inl rfl
    · exact .inr e

theorem jobClear_register (tag : Nat) (s : State) : (jobClear tag s).register = (stationsAtJobClear tag s).register := by
  simp only [jobClear, batchesAtJobClear_register]
  split <;> simp

theorem KnifeActs.jobClear (tag : Nat) (s : State) : KnifeActs s (jobClear tag s) := by
  obtain ⟨hj, ⟨l, -, hp⟩, -⟩ := jobClear_fields tag s
  exact ⟨⟨l, hp⟩, .inr hj, ⟨0, by simp⟩, by simp, by simp, fun st => by
    rw [jobClear_register]; exact stationsAtJobClear_register tag s st⟩

theorem KnifeActs.retire {k : Repeat} {s : State} (hk : k.serial = s.map.knifeCursor) : KnifeActs s (retire k s) := by
  have hdrop : KnifeActs s (s.withMap { s.map with ring := s.map.ring.drop 1, retired := k.serial, knifeCursor := k.serial + 1 }) :=
    ⟨⟨_, rfl⟩, .inl rfl, ⟨1, rfl⟩, rfl, by simp [hk], fun _ => .inl rfl⟩
  simp only [Machine.retire]
  split
  · exact hdrop.trans (.jobClear _ _)
  · exact hdrop

/-- The knife cursor moves past the record that the knife acts on (R31). -/
theorem retire_knifeCursor (k : Repeat) (s : State) : (retire k s).map.knifeCursor = k.serial + 1 := by
  simp only [retire]
  split <;> simp

theorem KnifeActs.actAtKnife (kind : KnifeKind) {k : Repeat} {s : State} (hk : k.serial = s.map.knifeCursor) :
    KnifeActs s (actAtKnife kind k s) := by
  have hfold (f : Bool) (n : Option Repeat) : KnifeActs s (foldAndCut f k n (s.withRolls { s.rolls with knifeReg := none })) :=
    .of_same (by simp) (by simp) (by simp) (by simp)
  have hswitch (f : Bool) (n : Option Repeat) (u : State) : KnifeActs u (switchLanes f n u) :=
    .of_same (by simp) (by simp) (by simp) (by simp)
  exact (hfold _ _).trans ((KnifeActs.retire (by simpa using hk)).trans (hswitch _ _ _))

theorem actAtKnife_knifeCursor (kind : KnifeKind) (k : Repeat) (s : State) : (actAtKnife kind k s).map.knifeCursor = k.serial + 1 := by
  simp [actAtKnife, retire_knifeCursor]

theorem KnifeActs.placeKnife (s : State) : KnifeActs s (placeKnife s) := .of_same (by simp) (by simp) (by simp) (by simp)

theorem KnifeActs.settleKnife (n : Nat) (s : State) : KnifeActs s (settleKnife n s) := by
  induction n generalizing s with
  | zero => exact .placeKnife s
  | succ n ih =>
    unfold Machine.settleKnife
    split
    · next hk =>
      split
      · exact (KnifeActs.actAtKnife _ (findRepeat_eq_some hk).1).trans (ih _)
      · exact .placeKnife s
    · exact .placeKnife s

theorem KnifeActs.restKnife (s : State) : KnifeActs s (restKnife s) := .settleKnife _ s

theorem KnifeActs.knifeCrossing (s : State) : KnifeActs s (knifeCrossing s) := by
  unfold Machine.knifeCrossing
  split
  · next hk => exact (KnifeActs.actAtKnife _ (findRepeat_eq_some hk).1).trans (.restKnife _)
  · exact .of_same rfl rfl rfl rfl

theorem KnifeActs.knifeAtCreation (rec : Repeat) (s : State) : KnifeActs s (knifeAtCreation rec s) := by
  unfold Machine.knifeAtCreation
  split
  · refine KnifeActs.trans ?_ (.restKnife _)
    split
    · exact .of_same (by simp) (by simp) (by simp) (by simp)
    · exact .refl s
  · split
    · exact .restKnife s
    · exact .refl s

/-! ### The positions at a creation and at a crossing -/

/-- The positions, the speed and the reference are as they were; splice positions and the serial counter may have moved. -/
def StaysPlaced (s t : State) : Prop := ∃ l n, t.pos = { s.pos with splices := l, nextSerial := n }

theorem StaysPlaced.refl (s : State) : StaysPlaced s s := ⟨_, _, rfl⟩

theorem StaysPlaced.trans {s t u : State} (h : StaysPlaced s t) (k : StaysPlaced t u) : StaysPlaced s u := by
  obtain ⟨_, _, h⟩ := h
  obtain ⟨l, n, k⟩ := k
  exact ⟨l, n, by rw [k, h]⟩

theorem StaysPlaced.of_pos {s t : State} (h : t.pos = s.pos) : StaysPlaced s t := ⟨_, _, h⟩

theorem StaysPlaced.of_knife {s t : State} (h : KnifeActs s t) : StaysPlaced s t := by
  obtain ⟨l, hl⟩ := h.pos
  exact ⟨l, _, hl⟩

theorem StaysPlaced.travel {s t : State} (h : StaysPlaced s t) : travelView t = travelView s := by
  obtain ⟨_, _, h⟩ := h
  simp [travelView, h]

theorem StaysPlaced.ref {s t : State} (h : StaysPlaced s t) : t.pos.ref = s.pos.ref := by
  obtain ⟨_, _, h⟩ := h
  rw [h]

theorem StaysPlaced.resolveSplices (s : State) : StaysPlaced s (resolveSplices s) := by
  unfold Machine.resolveSplices
  repeat' split
  · exact .refl s
  · next r _ _ => exact ⟨s.pos.splices.filter fun p => !inSpan p r, s.pos.nextSerial, by simp⟩
  · exact .refl s

theorem StaysPlaced.completeNewest (f : Repeat → Nat) (s : State) : StaysPlaced s (completeNewest f s) := by
  unfold Machine.completeNewest
  split
  · exact .refl s
  · exact (StaysPlaced.of_pos (updateRepeat_pos _ _ s)).trans (.resolveSplices _)

theorem StaysPlaced.takeSplice (s : State) : StaysPlaced s (takeSplice s) := by
  have h : (Machine.takeSplice s).pos = s.pos ∨ ∃ l, (Machine.takeSplice s).pos = { s.pos with splices := l } := by
    simp only [Machine.takeSplice]
    repeat' split
    all_goals simp
  rcases h with h | ⟨l, h⟩
  · exact .of_pos h
  · exact ⟨l, _, h⟩

theorem StaysPlaced.takeSerial (s : State) : StaysPlaced s (takeSerial s) := by
  simp only [Machine.takeSerial]
  split <;> exact ⟨_, _, rfl⟩

theorem StaysPlaced.cursorsAtCreation (rec : Repeat) (s : State) : StaysPlaced s (cursorsAtCreation rec s) := by
  simp only [Machine.cursorsAtCreation]
  refine StaysPlaced.trans (.of_pos ?_) (.of_knife (.knifeAtCreation rec _))
  split <;> simp

theorem StaysPlaced.createRepeat (j : JobRecord) (start : Nat) (o : Origin) (res : StationResult) (s : State) :
    StaysPlaced s (createRepeat j start o res s) := by
  have hnamed : StaysPlaced s (namedAt start s) :=
    (StaysPlaced.completeNewest _ s).trans ((StaysPlaced.takeSerial _).trans (.of_pos (nameJob_pos _ _ _)))
  rw [createRepeat_eq]
  exact hnamed.trans <| (StaysPlaced.of_pos (appendRepeat_pos _ _)).trans <|
    (StaysPlaced.cursorsAtCreation _ _).trans (.of_pos (designate_pos _ _))

/-! ### A creation with the reference's record -/

/-- The reference's expected window, when it has one (R4). -/
theorem refWindow_eq_some {s : State} {w : Window} (h : refWindow s = some w) :
    ∃ p j, hasWindow s.pos.ref.state = true ∧ s.pos.ref.newestStart = some p ∧ creatingJob s = some j
      ∧ w = { centre := p + j.length, halfWidth := j.halfWindow } := by
  unfold refWindow at h
  split at h
  · next hw =>
    split at h
    · next p j hp hj => exact ⟨p, j, hw, hp, hj, (Option.some.inj h).symm⟩
    · exact absurd h (by simp)
  · exact absurd h (by simp)

/-- A SYNTH repeat with the reference's record after it, before the REF claim (R9). -/
def synthState (j : JobRecord) (start : Nat) (s : State) : State :=
  setRef { s.pos.ref with
      state := stateAfterSynth s.pos.ref.state (saturate 255 (s.pos.ref.synthRun + 1)) j.missLimit
      newestStart := some start
      synthRun := saturate 255 (s.pos.ref.synthRun + 1) }
    (createRepeat j start .synth .missed s)

/-- A MARKED repeat with the reference's record after it, before the REF claim (R6, R7). -/
def markedState (j : JobRecord) (err : Int) (s : State) : State :=
  setRef { s.pos.ref with state := .locked, newestStart := some s.pos.linePos, synthRun := 0, lastError := err }
    (createRepeat j s.pos.linePos .marked (.matched err) s)

/-- Without a window a window end does nothing. -/
theorem refWindowEnd_of_none {s : State} (h : refWindow s = none) : refWindowEnd s = s := by simp [refWindowEnd, h]

/-- A window end is its SYNTH repeat but for the REF claim and REF_LOST (R9, R10). -/
theorem refWindowEnd_reads {β : Type} {p : State → β} (hs : ∀ s v, p (s.withSpeed v) = p s) (hl : ∀ s v, p (s.withLink v) = p s)
    {s : State} {w : Window} {j : JobRecord} (hw : refWindow s = some w) (hj : creatingJob s = some j) :
    p (refWindowEnd s) = p (synthState j w.centre s) := by
  have href := (StaysPlaced.createRepeat j w.centre .synth .missed s).ref
  have hslot (c : Option ClaimValue) (u : State) : p (setSlot .ref c u) = p u := hs u _
  have hnotice (u : State) : p (raiseNotice .refLost u) = p u := hl u _
  rw [synthState]
  simp only [refWindowEnd, hw, hj, href]
  split <;> split
  · rw [hslot]
  · rfl
  · rw [hnotice, hslot]
  · rfl

/-- A mark that creates a repeat is its MARKED repeat but for the REF claim and REF_LOCKED (R6, R7, R10). -/
theorem markedRepeat_reads {β : Type} {p : State → β} (hs : ∀ s v, p (s.withSpeed v) = p s) (hl : ∀ s v, p (s.withLink v) = p s)
    (j : JobRecord) (err : Int) (s : State) : p (markedRepeat j err s) = p (markedState j err s) := by
  have href := (StaysPlaced.createRepeat j s.pos.linePos .marked (.matched err) s).ref
  have hslot (c : Option ClaimValue) (u : State) : p (setSlot .ref c u) = p u := hs u _
  have hnotice (u : State) : p (raiseNotice .refLocked u) = p u := hl u _
  rw [markedState]
  simp only [markedRepeat, href]
  split
  · rw [hnotice, hslot]
  · rfl

theorem setRef_travel (r : RefRecord) (s : State) : travelView (setRef r s) = travelView s := rfl

theorem synthState_travel (j : JobRecord) (start : Nat) (s : State) : travelView (synthState j start s) = travelView s := by
  rw [synthState, setRef_travel, (StaysPlaced.createRepeat j start .synth .missed s).travel]

theorem refWindowEnd_travel (s : State) : travelView (refWindowEnd s) = travelView s := by
  cases hw : refWindow s with
  | none => rw [refWindowEnd_of_none hw]
  | some w =>
    obtain ⟨p, j, -, -, hj, -⟩ := refWindow_eq_some hw
    exact (refWindowEnd_reads (fun _ _ => rfl) (fun _ _ => rfl) hw hj).trans (synthState_travel j _ s)

theorem travelView_of_pos {s t : State} (h : t.pos = s.pos) : travelView t = travelView s := by rw [travelView, h, travelView]

/-- A crossing leaves the line position, the high-water position, the speed and the interval. -/
theorem takeCrossing_travel (c : Crossing) (s : State) : travelView (takeCrossing c s) = travelView s := by
  cases c with
  | refWindowEnd => exact refWindowEnd_travel s
  | knife => exact (StaysPlaced.of_knife (.knifeCrossing s)).travel
  | stationWindowEnd | nip | liftStart | liftEnd => exact travelView_of_pos (by simp [takeCrossing])

/-- What an event changes beside its effect: the notices and the model's own mark. -/
theorem asEvent_reads {β : Type} {p : State → β} (hl : ∀ s v, p (s.withLink v) = p s) (hm : ∀ s v, p (s.withModel v) = p s)
    (f : State → State) (s : State) : p (asEvent f s) = p (f (withEventClosed s)) := by
  have hg (u : State) : p (grantNoticed s u) = p u := by
    unfold grantNoticed
    split
    · rfl
    · exact hl _ _
  rw [asEvent_eq]
  exact (hm _ _).trans (hg _)

theorem asEvent_travel {f : State → State} (h : ∀ u, travelView (f u) = travelView u) (s : State) :
    travelView (asEvent f s) = travelView s :=
  (asEvent_reads (fun _ _ => rfl) (fun _ _ => rfl) f s).trans ((h _).trans rfl)

theorem takeDue_travel (s : State) : travelView (takeDue s) = travelView s :=
  takeDue_keeps (P := fun t => travelView t = travelView s) (fun _ h => h)
    (fun c _ h => (asEvent_travel (takeCrossing_travel c) _).trans h) s rfl

/-! ### The empty path in SEEKING -/

/-- The reference's state stays, and no job enters the path. -/
theorem SeekingClear.of_kept {s t : State} (hr : t.pos.ref.state = s.pos.ref.state) (hh : t.jobs.head = s.jobs.head)
    (ht : t.jobs.tail = s.jobs.tail ∨ t.jobs.tail = none) (h : SeekingClear s) : SeekingClear t := by
  intro hseek
  obtain ⟨h1, h2⟩ := h (hr ▸ hseek)
  exact ⟨hh.trans h1, by rcases ht with e | e <;> rw [e]; exact h2⟩

theorem SeekingClear.of_same {s t : State} (hp : t.pos = s.pos) (hj : t.jobs = s.jobs) (h : SeekingClear s) : SeekingClear t :=
  h.of_kept (by rw [hp]) (by rw [hj]) (.inl (by rw [hj]))

theorem SeekingClear.of_knife {s t : State} (hk : KnifeActs s t) (h : SeekingClear s) : SeekingClear t := by
  have hr := (StaysPlaced.of_knife hk).ref
  rcases hk.jobs with e | e
  · exact h.of_kept (by rw [hr]) (by rw [e]) (.inl (by rw [e]))
  · exact h.of_kept (by rw [hr]) (by rw [e]) (.inr (by rw [e]))

theorem stateAfterSynth_ne_seeking (state : RefState) (run limit : Nat) : stateAfterSynth state run limit ≠ .seeking := by
  unfold stateAfterSynth
  repeat' split
  all_goals simp

theorem SeekingClear.refWindowEnd {s : State} (h : SeekingClear s) : SeekingClear (refWindowEnd s) := by
  cases hw : refWindow s with
  | none => rwa [refWindowEnd_of_none hw]
  | some w =>
    obtain ⟨p, j, -, -, hj, -⟩ := refWindow_eq_some hw
    have hstate := refWindowEnd_reads (p := fun u => u.pos.ref.state) (fun _ _ => rfl) (fun _ _ => rfl) hw hj
    exact fun hseek => absurd (hstate.symm.trans hseek) (stateAfterSynth_ne_seeking _ _ _)

theorem SeekingClear.markedRepeat (j : JobRecord) (err : Int) (s : State) : SeekingClear (markedRepeat j err s) := by
  have hstate := markedRepeat_reads (p := fun u => u.pos.ref.state) (fun _ _ => rfl) (fun _ _ => rfl) j err s
  exact fun hseek => RefState.noConfusion (hstate.symm.trans hseek)

theorem SeekingClear.takeReferenceMark {s : State} (h : SeekingClear s) : SeekingClear (takeReferenceMark s) := by
  have hstray : SeekingClear (refStray s) := h.of_kept rfl rfl (.inl rfl)
  unfold Machine.takeReferenceMark
  repeat' split
  · exact h
  · exact h
  · exact .markedRepeat _ _ _
  all_goals first
    | exact hstray
    | exact .markedRepeat _ _ _

theorem SeekingClear.takeCrossing (c : Crossing) {s : State} (h : SeekingClear s) : SeekingClear (takeCrossing c s) := by
  cases c with
  | refWindowEnd => exact h.refWindowEnd
  | knife => exact h.of_knife (.knifeCrossing s)
  | stationWindowEnd | nip | liftStart | liftEnd => exact h.of_same (by simp [Machine.takeCrossing]) (by simp [Machine.takeCrossing])

theorem SeekingClear.asEvent {f : State → State} (hf : ∀ u, SeekingClear u → SeekingClear (f u)) {s : State} (h : SeekingClear s) :
    SeekingClear (asEvent f s) := by
  have heq := asEvent_reads (p := SeekingClear) (fun _ _ => rfl) (fun _ _ => rfl) f s
  rw [heq]
  exact hf _ h

theorem SeekingClear.drain {s : State} (h : SeekingClear s) : SeekingClear (drain s) :=
  drainFuel_keeps (P := SeekingClear) (fun _ h => h) (fun c _ h => h.asEvent fun _ => .takeCrossing c) _ s h

theorem SeekingClear.takeDue {s : State} (h : SeekingClear s) : SeekingClear (takeDue s) :=
  takeDue_keeps (P := SeekingClear) (fun _ h => h) (fun c _ h => h.asEvent fun _ => .takeCrossing c) s h

theorem SeekingClear.takeRefEnds (n : Nat) {s : State} (h : SeekingClear s) : SeekingClear (takeRefEnds n s) :=
  takeRefEnds_keeps (fun _ h => h.asEvent fun _ => .refWindowEnd) n s h

end Sys2Proof.Machine

/-! O54 at the requests and at a step: each request's effect keeps the bounds, and with the inputs, the timers and device reset so does
every command. -/

namespace Sys2Proof.Machine

open Sys2Proof

/-! ### Teach Offsets (R79) -/

/-- What the laws and the registered positions read of a job record: its number, R and W. -/
def JobRecord.key (j : JobRecord) : Nat × Nat × Nat := (j.number, j.length, j.halfWindow)

/-- From `u` to `v` the job slots differ in their records' other fields alone. -/
structure SlotsAlike (u v : JobUnit) : Prop where
  geometry : v.geometry = u.geometry
  staged : v.staged = u.staged
  head : v.head.map (fun h => h.record.key) = u.head.map (fun h => h.record.key)
  tail : v.tail.map (fun t => (t.record.key, t.finalBoundary)) = u.tail.map (fun t => (t.record.key, t.finalBoundary))

theorem SlotsAlike.trans {u v w : JobUnit} (h : SlotsAlike u v) (k : SlotsAlike v w) : SlotsAlike u w :=
  ⟨k.geometry.trans h.geometry, k.staged.trans h.staged, k.head.trans h.head, k.tail.trans h.tail⟩

theorem SlotsAlike.writeOffset (tag : Nat) (st : Station) (offset : Nat) (u : JobUnit) : SlotsAlike u (writeOffset tag st offset u) := by
  have htail : (u.tail.map fun t => if t.record.number = tag then { t with record := t.record.withOffset st offset } else t).map
      (fun t => (t.record.key, t.finalBoundary)) = u.tail.map (fun t => (t.record.key, t.finalBoundary)) := by
    cases u.tail with
    | none => rfl
    | some t => simp only [Option.map_some]; split <;> rfl
  unfold Machine.writeOffset
  split
  · next h hh =>
    split
    · exact ⟨rfl, rfl, by rw [hh]; rfl, rfl⟩
    · exact ⟨rfl, rfl, rfl, htail⟩
  · exact ⟨rfl, rfl, rfl, htail⟩

theorem teachStation_jobs (s : State) (st : Station) : SlotsAlike s.jobs (teachStation s st).jobs := by
  unfold teachStation
  split
  · exact SlotsAlike.writeOffset _ _ _ _
  · exact ⟨rfl, rfl, rfl, rfl⟩

theorem teachAll_jobs (s : State) : SlotsAlike s.jobs (teachAll s).jobs := by
  unfold teachAll
  induction allStations generalizing s with
  | nil => exact ⟨rfl, rfl, rfl, rfl⟩
  | cons st sts ih => exact (teachStation_jobs s st).trans (ih _)

/-- A slot that is filled after the change was filled before with a like record. -/
theorem SlotsAlike.of_head {u v : JobUnit} (h : SlotsAlike u v) {x : HeadJob} (hx : v.head = some x) :
    ∃ y, u.head = some y ∧ y.record.key = x.record.key := by
  have := h.head
  rw [hx, Option.map_some] at this
  exact Option.map_eq_some_iff.mp this.symm

theorem SlotsAlike.of_tail {u v : JobUnit} (h : SlotsAlike u v) {x : TailJob} (hx : v.tail = some x) :
    ∃ y, u.tail = some y ∧ y.record.key = x.record.key ∧ y.finalBoundary = x.finalBoundary := by
  have := h.tail
  rw [hx, Option.map_some] at this
  obtain ⟨y, hy, he⟩ := Option.map_eq_some_iff.mp this.symm
  exact ⟨y, hy, (Prod.mk.inj he).1, (Prod.mk.inj he).2⟩

theorem SlotsAlike.symm {u v : JobUnit} (h : SlotsAlike u v) : SlotsAlike v u := ⟨h.geometry.symm, h.staged.symm, h.head.symm, h.tail.symm⟩

theorem key_number {i j : JobRecord} (h : i.key = j.key) : i.number = j.number := (Prod.mk.inj h).1

theorem GoodLengths.of_key {i j : JobRecord} (h : i.key = j.key) (hi : GoodLengths i) : GoodLengths j := by
  simp only [JobRecord.key, Prod.mk.injEq] at h
  obtain ⟨-, h1, h2⟩ := h
  unfold GoodLengths at hi ⊢
  rwa [← h1, ← h2]

theorem SlotsAlike.jobsSound {s t : State} (h : SlotsAlike s.jobs t.jobs) (hs : JobsSound s) : JobsSound t := by
  obtain ⟨h1, h2, h3, h4, h5⟩ := hs
  refine ⟨by rwa [h.geometry], fun ht => ?_, by rwa [h.staged], fun x hx => ?_, fun x hx => ?_⟩
  · obtain ⟨x, hx⟩ := Option.isSome_iff_exists.mp ht
    obtain ⟨y, hy, -⟩ := h.of_tail hx
    rw [armedJob_of_staged h.staged]
    exact h2 (Option.isSome_iff_exists.mpr ⟨y, hy⟩)
  · obtain ⟨y, hy, hk⟩ := h.of_head hx
    exact (h4 y hy).of_key hk
  · obtain ⟨y, hy, hk, -⟩ := h.of_tail hx
    exact (h5 y hy).of_key hk

theorem SlotsAlike.pathAgrees {s t : State} (h : SlotsAlike s.jobs t.jobs) (hr : t.map.ring.map (·.job) = s.map.ring.map (·.job))
    (hs : PathAgrees s) : PathAgrees t := by
  obtain ⟨ha, hb, hc⟩ := hs
  refine ⟨fun n hn => ?_, fun x y hx hy => ?_, fun x a hx harm => ?_⟩
  · rcases ha n (hr ▸ hn) with ⟨x, hx, hxn⟩ | ⟨x, hx, hxn⟩
    · obtain ⟨y, hy, hk⟩ := h.symm.of_head hx
      exact .inl ⟨y, hy, (key_number hk).trans hxn⟩
    · obtain ⟨y, hy, hk, -⟩ := h.symm.of_tail hx
      exact .inr ⟨y, hy, (key_number hk).trans hxn⟩
  · obtain ⟨x', hx', hkx⟩ := h.of_head hx
    obtain ⟨y', hy', hky, hf⟩ := h.of_tail hy
    rw [← key_number hkx, ← key_number hky, ← hf]
    exact hb x' y' hx' hy'
  · obtain ⟨x', hx', hk⟩ := h.of_head hx
    rw [← key_number hk]
    exact hc x' a hx' ((armedJob_of_staged h.staged).symm.trans harm)

theorem Keeps.teachAll (s : State) : Keeps s (teachAll s) :=
  .of (jobs := (teachAll_jobs s).jobsSound) (path := fun _ => (teachAll_jobs s).pathAgrees (by simp))

/-! ### The job unit's requests (R41 to R50) -/

theorem Keeps.serveSetGeometry (d p e : BitVec 32) (s : State) : Keeps s (serveSetGeometry d p e s).1 := by
  simp only [Machine.serveSetGeometry]
  split
  · exact .refl s
  · split
    · next hg => exact .of (jobs := fun ⟨_, h⟩ => ⟨hg, h⟩) (path := fun _ h => h)
    · exact .refl s

theorem firstBadField_none {r : RawJob} (h : firstBadField r = none) {c : Option BadField} (hc : c ∈ fieldChecks r) : c = none := by
  have := List.findSome?_eq_none_iff.mp h c hc
  simpa using this

theorem checkField_none {n : Nat} {b : Bool} (h : checkField n b = none) : b = true := by
  unfold checkField at h
  split at h
  · next hb => exact hb
  · exact absurd h (by simp)

/-- Load Job stages no record with a bad R or W (R42, fields 3 and 4). -/
theorem goodLengths_of_valid {r : RawJob} (h : firstBadField r = none) : GoodLengths (recordOf r) := by
  have h3 := checkField_none (firstBadField_none h (c := checkField 3 (within 2000 30000 r.length)) (by simp [fieldChecks]))
  have h4 := checkField_none (firstBadField_none h (c := checkField 4 (within 50 2000 r.halfWindow && 4 * r.halfWindow < r.length))
    (by simp [fieldChecks]))
  simp only [within, Bool.and_eq_true, decide_eq_true_eq] at h3 h4
  exact ⟨h3.1, h3.2, h4.1.1, h4.2⟩

theorem Keeps.stageJob {j : JobRecord} (hj : GoodLengths j) (s : State) : Keeps s (stageJob j s) := by
  refine .of (position := positionSound_of_view rfl) (lists := listsBounded_of_view rfl)
    (jobs := fun ⟨h1, _, _, h4⟩ => ⟨h1, fun _ => rfl, fun x hx => ?_, h4⟩)
    (path := fun _ ⟨ha, hb, _⟩ => ⟨ha, hb, fun _ _ _ h => (nomatch h)⟩) (counter := .inl rfl)
  obtain rfl := Option.some.inj hx
  exact hj

theorem Keeps.serveLoadJob (p : List Byte) (s : State) : Keeps s (serveLoadJob p s).1 := by
  unfold Machine.serveLoadJob
  split
  · exact .refl s
  · split
    · exact .refl s
    · split
      · exact .refl s
      · next h => exact .stageJob (goodLengths_of_valid h) s

/-- The conditions that Arm Job checks (R45). -/
theorem judgeArm_ok {s : State} (h : judgeArm s = .ok) :
    ∃ j, s.jobs.staged = some j ∧ s.jobs.tail = none ∧ j.armed = false ∧ ∀ x, s.jobs.head = some x → x.record.number ≠ j.record.number := by
  unfold judgeArm at h
  split at h
  · exact absurd h (by simp)
  · next j hj =>
    split at h
    · exact absurd h (by simp)
    · next hb =>
      simp only [Bool.or_eq_true, not_or, Bool.not_eq_true, Option.isSome_eq_false_iff, Option.isNone_iff_eq_none] at hb
      split at h
      · exact absurd h (by simp)
      · next hn => exact ⟨j, hj, hb.1, hb.2, fun x hx e => hn (by rw [hx, Option.map_some, e])⟩

/-- Arm Job marks the staged record and leaves the head and the tail slot (R46). -/
theorem armStaged_fields (s : State) : (armStaged s).jobs = markArmed true s.jobs
    ∧ (armStaged s).pos = { s.pos with ref := if s.jobs.head = none then { s.pos.ref with state := .seeking } else s.pos.ref } := by
  simp only [armStaged, Option.isNone_iff_eq_none]
  split <;> exact ⟨rfl, rfl⟩

theorem Keeps.armStaged {s : State} (h : judgeArm s = .ok) : Keeps s (armStaged s) := by
  obtain ⟨j, hj, htail, -, hnum⟩ := judgeArm_ok h
  obtain ⟨hjobs, hpos⟩ := armStaged_fields s
  have hmap : (Machine.armStaged s).map = s.map := by simp only [Machine.armStaged]; split <;> rfl
  have hrest : listView (Machine.armStaged s) = listView s ∧ counterView (Machine.armStaged s) = counterView s := by
    simp only [Machine.armStaged]; split <;> exact ⟨rfl, rfl⟩
  refine .of (position := positionSound_of_view (by simp [travelView, hpos])) (lists := listsBounded_of_view hrest.1)
    (jobs := fun ⟨h1, _, h3, h4, h5⟩ => ?_) (path := fun _ ⟨ha, hb, _⟩ => ?_) (counter := .inl hrest.2)
  · rw [JobsSound, hjobs]
    refine ⟨h1, fun ht => absurd ht (by simp [markArmed, htail]), fun x hx => ?_, h4, h5⟩
    simp only [markArmed, hj, Option.map_some, Option.some.injEq] at hx
    subst hx
    exact h3 j hj
  · rw [PathAgrees, hjobs, hmap]
    refine ⟨ha, hb, fun x a hx harm e => hnum x hx ?_⟩
    simp only [armedJob, hjobs, markArmed, hj, Option.map_some, if_true, Option.some.injEq] at harm
    rw [harm, e]

theorem Keeps.serveArmJob (s : State) : Keeps s (serveArmJob s).1 := by
  unfold Machine.serveArmJob
  split
  · next h _ => exact .armStaged h
  · exact .refl s

theorem armedJob_unarmed {s t : State} (h : t.jobs.staged = s.jobs.staged.map fun j => { j with armed := false }) :
    armedJob t = none := by
  unfold armedJob
  rw [h]
  cases s.jobs.staged <;> simp

/-- Withdrawing the armed mark of the staged record. -/
theorem Keeps.withdrawArming (s : State) : Keeps s (withdrawArming s) := by
  have hnone : armedJob (Machine.withdrawArming s) = none := armedJob_unarmed (s := s) rfl
  refine .of (position := positionSound_of_view rfl) (lists := listsBounded_of_view rfl)
    (jobs := fun ⟨h1, _, h3, h4⟩ => ⟨h1, fun _ => hnone, fun x hx => ?_, h4⟩)
    (path := fun _ ⟨ha, hb, _⟩ => ⟨ha, hb, fun _ _ _ h => absurd (hnone.symm.trans h) (by simp)⟩) (counter := .inl rfl)
  obtain ⟨j, hj, rfl⟩ := Option.map_eq_some_iff.mp hx
  exact h3 j hj

theorem Keeps.endReference (j : JobRecord) (s : State) : Keeps s (endReference j s) := by
  simp only [Machine.endReference]
  have h := (Keeps.completeNewest (fun _ => j.length) s).trans
    (.setRef { (Machine.completeNewest (fun _ => j.length) s).pos.ref with state := .idle, newestStart := none } _)
  split
  · exact h.trans (.setSlot _ _ _)
  · exact h

@[simp] theorem endReference_jobs (j : JobRecord) (s : State) : (endReference j s).jobs = s.jobs := by
  simp only [endReference]
  split <;> simp

theorem judgeEnd_finish {s : State} {h : HeadJob} (hf : judgeEnd s = .finish h) : s.jobs.head = some h ∧ s.jobs.tail = none := by
  unfold judgeEnd at hf
  split at hf
  · split at hf <;> exact absurd hf (by simp)
  · next x hx =>
    split at hf
    · exact absurd hf (by simp)
    · next ht =>
      refine ⟨?_, by simpa using ht⟩
      rw [hx]
      simpa using hf

/-- The head job becomes the tail job; every record of the path is then the tail job's (R50). -/
theorem Keeps.headToTail {h : HeadJob} {s : State} (hh : s.jobs.head = some h) (ht : s.jobs.tail = none) : Keeps s (headToTail h s) := by
  have hnone : armedJob (Machine.headToTail h s) = none := armedJob_unarmed (s := s) rfl
  refine .of (position := positionSound_of_view rfl) (lists := listsBounded_of_view rfl)
    (jobs := fun ⟨h1, _, h3, h4, _⟩ => ⟨h1, fun _ => hnone, fun x hx => ?_, fun _ h => (nomatch h), fun x hx => ?_⟩)
    (path := fun _ ⟨ha, _, _⟩ => ⟨fun n hn => ?_, fun _ _ h => (nomatch h), fun _ _ h => (nomatch h)⟩)
    (counter := .inl rfl)
  · obtain ⟨j, hj, rfl⟩ := Option.map_eq_some_iff.mp hx
    exact h3 j hj
  · obtain rfl := Option.some.inj hx
    exact h4 h hh
  · rcases ha n hn with ⟨x, hx, hxn⟩ | ⟨x, hx, -⟩
    · rw [hh] at hx
      obtain rfl := Option.some.inj hx
      exact .inr ⟨_, rfl, hxn⟩
    · rw [ht] at hx
      exact absurd hx (by simp)

theorem Keeps.serveEndJob (s : State) : Keeps s (serveEndJob s).1 := by
  unfold Machine.serveEndJob
  split
  · exact .refl s
  · exact .refl s
  · exact .withdrawArming s
  · next h hf =>
    obtain ⟨hh, ht⟩ := judgeEnd_finish hf
    exact (Keeps.endReference h.record s).trans <|
      (Keeps.headToTail (by rwa [endReference_jobs]) (by rwa [endReference_jobs])).trans (.restKnife _)

/-! ### Line Reset (R54) -/

theorem Keeps.closeAtLineReset (s : State) (l : Lane) : Keeps s (closeAtLineReset s l) := by
  unfold Machine.closeAtLineReset
  split
  · exact .refl s
  · exact (Keeps.takeRollId l s).trans (.closeRoll _ _ _ _)

/-- The path is discarded: the ring, the reference, the job slots and the stations (R37, R19, R54, R81). -/
def pathDiscarded (s : State) : State :=
  let s3 := (s.withMap emptyMap).withPos { s.pos with ref := RefRecord.reset, nextSerial := 1, splices := [], speed := 0 }
  ((s3.withJobs { markArmed false s.jobs with head := none, tail := none }).withShade (shadeAtLineReset s.shade)).withRegister
    (PerStation.tabulate fun _ => StationRecord.off)

/-- The embosser and the lanes are reset and the internal claims released as one change (R95, R118, R173). -/
def unitsReset (s : State) : State :=
  let s6 := (if s.emboss.state = .none then s else noteEmbossMove s).withEmboss EmbossUnit.reset
  let s7 := lanesIdle (s6.withRolls { s6.rolls with knifeReg := none })
  let s8 := s7.withLabels { s7.labels with claimHeld := false }
  s8.withSpeed (releaseInternal s8.speed)

/-- Line Reset closes the open rolls, discards the path and resets the units (R54). -/
theorem lineReset_eq (s : State) : lineReset s = unitsReset (pathDiscarded (allLanes.foldl closeAtLineReset s)) := by
  unfold lineReset
  generalize allLanes.foldl closeAtLineReset s = u
  rfl

theorem Keeps.pathDiscarded (s : State) : Keeps s (pathDiscarded s) := by
  have hnone : armedJob (Machine.pathDiscarded s) = none := armedJob_unarmed (s := s) rfl
  refine .of (position := fun ⟨h1, h2, _, h4⟩ => ⟨h1, h2, Nat.zero_le _, h4⟩)
    (lists := listsBounded_mono (Nat.zero_le _) id id (le_max_left _ _) (le_max_left _ _))
    (jobs := fun ⟨h1, _, h3, _, _⟩ => ⟨h1, fun _ => hnone, fun x hx => ?_, fun _ h => (nomatch h), fun _ h => (nomatch h)⟩)
    (path := fun _ _ => ⟨fun _ h => (nomatch h), fun _ _ h => (nomatch h), fun _ _ h => (nomatch h)⟩) (counter := .inl rfl)
  obtain ⟨j, hj, rfl⟩ := Option.map_eq_some_iff.mp hx
  exact h3 j hj

theorem Keeps.noteEmbossMove (s : State) : Keeps s (noteEmbossMove s) := .of

theorem Keeps.unitsReset (s : State) : Keeps s (unitsReset s) := by
  have hnote : Keeps s (if s.emboss.state = .none then s else Machine.noteEmbossMove s) := by
    split
    · exact .refl s
    · exact .noteEmbossMove s
  have hemboss (u : State) : Keeps u (u.withEmboss EmbossUnit.reset) :=
    .of (lists := listsBounded_mono (le_max_left _ _) (fun _ => Nat.zero_le _) id (le_max_left _ _) (le_max_left _ _))
  have hlabels (u : State) : Keeps u (u.withLabels { u.labels with claimHeld := false }) := .of (lists := listsBounded_of_view rfl)
  have hspeed (u : State) : Keeps u (u.withSpeed (releaseInternal u.speed)) := .of
  exact hnote.trans <| (hemboss _).trans <| (Keeps.withKnifeReg none _).trans <| (Keeps.lanesIdle _).trans <| (hlabels _).trans (hspeed _)

theorem Keeps.lineReset (s : State) : Keeps s (lineReset s) := by
  rw [lineReset_eq]
  exact (Keeps.foldl Keeps.closeAtLineReset _ _).trans ((Keeps.pathDiscarded _).trans (.unitsReset _))

/-! ### The other requests -/

theorem Keeps.setHold (v : Bool) (s : State) : Keeps s (setHold v s) :=
  (Keeps.of (lists := listsBounded_of_view rfl) : Keeps s (s.withEmboss { s.emboss with hold := v })).trans (.retestCauses _)

theorem Keeps.setLabelState (n : Nat) (st : LabelState) (s : State) : Keeps s (setLabelState n st s) :=
  .of (lists := listsBounded_mono (by simp) (by simp) (by simp [Machine.setLabelState]) (by simp) (by simp))
    (counter := .inl (by simp [counterView, Machine.setLabelState]))

@[simp] theorem claimAfterRemoval_queue (s : State) : (claimAfterRemoval s).labels.queue = s.labels.queue := by
  unfold claimAfterRemoval; split <;> rfl

theorem Keeps.withQueue {q : List LabelRecord} {s : State} (hq : q.length ≤ s.labels.queue.length) :
    Keeps s (claimAfterRemoval (s.withLabels { s.labels with queue := q })) :=
  .of (lists := listsBounded_mono (by simp) (by simp) (by simp) (by simp) (by simp; omega))

theorem Keeps.removeLabel (n : Nat) (s : State) : Keeps s (removeLabel n s) := .withQueue (List.length_filter_le _ _)

theorem Keeps.withBatches {u : ShadeUnit} {s : State} (hb : u.batches.length ≤ s.shade.batches.length)
    (hg : u.generator = s.shade.generator) (hn : u.nextStamp = s.shade.nextStamp) : Keeps s (s.withShade u) :=
  .of (lists := listsBounded_mono (by simp) (by simp) (by simp) (by simp; omega) (by simp)) (counter := .inl (by simp [counterView, hg, hn]))

theorem Keeps.withdrawFromBatch (e : HistoryEntry) (s : State) : Keeps s (withdrawFromBatch e s) := by
  unfold Machine.withdrawFromBatch
  split
  · exact .withBatches (by simp) rfl rfl
  · exact .refl s

theorem Keeps.mergeBack (l : Lane) (c : HistoryEntry) (s : State) : Keeps s (mergeBack l c s) := by
  simp only [Machine.mergeBack]
  refine Keeps.trans ?_ ((Keeps.setLabelState _ _ _).trans (.withdrawFromBatch _ _))
  split
  · exact (Keeps.setLane _ _ s).trans (.removeLabel _ _)
  · exact .setLane _ _ s

theorem Keeps.serveCutFault (lane : BitVec 8) (n : BitVec 32) (s : State) : Keeps s (serveCutFault lane n s).1 := by
  unfold Machine.serveCutFault
  split
  · exact .refl s
  · split
    · exact .refl s
    · exact .setLane _ _ s
    · exact .mergeBack _ _ s

theorem Keeps.forceLanes (m : PerLane Bool) (s : State) : Keeps s (forceLanes m s) :=
  .of (lists := listsBounded_of_view (by simp [listView, Machine.forceLanes]))
    (counter := .inl (by simp [counterView, Machine.forceLanes]))

theorem Keeps.takeOldestLabel {r : LabelRecord} {rest : List LabelRecord} {s : State} (hq : s.labels.queue = r :: rest) :
    Keeps s (takeOldestLabel r rest s) :=
  (Keeps.withQueue (by rw [hq]; simp)).trans (.setLabelState _ _ _)

theorem Keeps.reissueLabel (e : HistoryEntry) (s : State) : Keeps s (reissueLabel e s) := by
  unfold Machine.reissueLabel
  refine Keeps.trans ?_ (.setLabelState _ _ _)
  split
  · exact .removeLabel _ s
  · exact .refl s

/-- A request's effect keeps the bounds (R180). -/
theorem Keeps.serve (m : Master) (r : Request) (s : State) : Keeps s (serve m r s).1 := by
  cases r
  case status => simp only [Machine.serve, serveStatus]; split <;> exact .refl s
  case readRepeat => simp only [Machine.serve, serveReadRepeat]; split <;> exact .refl s
  case readRolls =>
    simp only [Machine.serve, serveReadRolls]
    split
    · exact .refl s
    · split <;> exact .refl s
  case readNotices => simp only [Machine.serve, serveReadNotices]; exact .of
  case setNoticeMask =>
    simp only [Machine.serve, serveSetNoticeMask]
    split
    · exact .refl s
    · exact .of
  case claim =>
    simp only [Machine.serve, serveClaim]
    split
    · exact .refl s
    · exact .of
  case release => exact .of (s := s) (t := takeRelease m s)
  case setGeometry => exact .serveSetGeometry _ _ _ s
  case loadJob => exact .serveLoadJob _ s
  case armJob => exact .serveArmJob s
  case endJob => exact .serveEndJob s
  case lineReset => exact .lineReset s
  case setBroadcast =>
    simp only [Machine.serve, serveSetBroadcast]
    split
    · exact .refl s
    · exact .of
  case takeTrims => exact .refl s
  case teachOffsets => exact .teachAll s
  case embossHold => exact .setHold true s
  case embossRelease => exact .setHold false s
  case startRoll =>
    simp only [Machine.serve, serveStartRoll]
    split
    · exact .refl s
    · exact .forceLanes _ s
  case cutFault => exact .serveCutFault _ _ s
  case reseedSampling =>
    simp only [Machine.serve, serveReseedSampling]
    split
    · exact .refl s
    · exact .of (lists := listsBounded_of_view rfl) (counter := .inr ⟨fun _ => (by decide : (1023 : BitVec 10) ≠ 0), id⟩)
  case setSeedLock =>
    simp only [Machine.serve, serveSetSeedLock]
    split
    · exact .refl s
    · exact .withBatches (Nat.le_refl _) rfl rfl
  case readSamplePlan => exact .refl s
  case shadeSample =>
    simp only [Machine.serve, serveShadeSample]
    split
    · exact .refl s
    · split
      · exact .refl s
      · exact .updateRepeat (fun _ => by rfl) _ s
  case defectMark =>
    simp only [Machine.serve, serveDefectMark]
    split
    · exact .refl s
    · split
      · exact .refl s
      · exact .updateRepeat (fun _ => by rfl) _ s
  case closeBatch =>
    simp only [Machine.serve, serveCloseBatch]
    split
    · exact .refl s
    · exact .withBatches (by simp) rfl rfl
  case retireBatch =>
    simp only [Machine.serve, serveRetireBatch]
    split
    · exact .refl s
    · split
      · exact .refl s
      · exact .withBatches (List.length_filter_le _ _) rfl rfl
  case readBatches => exact .refl s
  case takeLabel =>
    simp only [Machine.serve, serveTakeLabel]
    split
    · exact .refl s
    · next h => exact .takeOldestLabel h
  case labelApplied =>
    simp only [Machine.serve, serveLabelApplied]
    split
    · exact .refl s
    · split
      · exact .setLabelState _ _ s
      · exact .refl s
  case relabel =>
    simp only [Machine.serve, serveRelabel]
    split
    · exact .refl s
    · split
      · exact .refl s
      · exact .reissueLabel _ s
  case setRunSpeed run crawl => exact .of (s := s) (t := takeRunSpeed (clampSpeed run) (clampSpeed crawl) s)
  case setClaimGate =>
    simp only [Machine.serve, serveSetClaimGate]
    split
    · exact .refl s
    · exact .of

end Sys2Proof.Machine

/-! The commands: what a law needs so that every command keeps it, and O54. -/

namespace Sys2Proof.Machine

open Sys2Proof

/-! ### A law that every command keeps -/

/-- A law of the state that the parts of the commands keep: the link's own updates, the outputs, the inputs' and the requests'
effects as events, the taking of what is due, and device reset with its release. -/
structure CommandLaw (P : State → Prop) : Prop where
  link : ∀ s v, P s → P (s.withLink v)
  knives : ∀ s v, P s → P (s.withPins { s.pins with knives := v })
  edge : ∀ s forward, P s → P (countEdge forward s)
  interval : ∀ s, P s → P (asEvent takeInterval s)
  mark : ∀ s, P s → P (asEvent takeReferenceMark s)
  splice : ∀ s, P s → P (asEvent takeSplice s)
  stationMark : ∀ s st, P s → P (asEvent (takeStationMark st) s)
  request : ∀ s m r, P s → P (asEvent (fun x => (serve m r x).1) s)
  claim : ∀ s m l v, P s → P (asEvent (takeClaim m l v) s)
  release : ∀ s m, P s → P (asEvent (takeRelease m) s)
  refEnds : ∀ s n, P s → P (takeRefEnds n s)
  due : ∀ s, P s → P (takeDue s)
  drained : ∀ s, P s → P (drain s)
  reset : ∀ s, P s → P (assertReset s)
  released : ∀ s a b d, P s → P (releaseReset a b d s)

/-- A command that device reset holds off leaves the state, or is taken. -/
theorem unlessReset_keeps {P : State → Prop} {f : State → State} (hf : ∀ s, P s → P (f s)) {s : State} (hs : P s) :
    P (unlessReset f s) := by
  unfold unlessReset
  split
  · exact hs
  · exact hf s hs

/-- What a law needs so that the link keeps it: the link's own updates, the requests and what is drained after them, and the
broadcast claims. -/
structure LinkLaw (P : State → Prop) : Prop where
  link : ∀ s v, P s → P (s.withLink v)
  request : ∀ s m r v, P s → P (afterRequest r ((asEvent (fun x => (serve m r x).1) s).withLink v))
  claim : ∀ s m l v, P s → P (asEvent (takeClaim m l v) s)
  release : ∀ s m, P s → P (asEvent (takeRelease m) s)

theorem CommandLaw.linkLaw {P : State → Prop} (h : CommandLaw P) : LinkLaw P where
  link := h.link
  request s m r v hs := by
    have hserved := h.link _ v (h.request s m r hs)
    unfold afterRequest
    split <;> first | exact hserved | exact h.drained _ hserved
  claim := h.claim
  release := h.release

/-- The commands that come over the link. -/
def ofLink : Instr → Bool
  | .encoderEdge _ | .intervalTimer | .referenceMark | .spliceEdge | .stationMark _ | .strobeEnd _ | .deviceReset => false
  | .deviceResetRelease _ _ _ => false
  | _ => true

section

variable {P : State → Prop} (h : LinkLaw P)

include h

theorem LinkLaw.takeRequest (m : Master) (tag : Byte) (r : Request) {s : State} (hs : P s) : P (takeRequest m tag r s) := by
  have hbegin : P (beginAnswer s) := h.link _ _ hs
  simp only [Machine.takeRequest]
  split
  · exact h.link _ _ hbegin
  · split
    · exact h.link _ _ hbegin
    · exact h.request _ _ _ _ hbegin

theorem LinkLaw.takeAddressed (f : Frame) (m : Master) {s : State} (hs : P s) : P (takeAddressed f m s) := by
  have hbegin : P (beginAnswer s) := h.link _ _ hs
  unfold Machine.takeAddressed
  split
  · exact h.link _ _ hbegin
  · split
    · exact h.link _ _ hbegin
    · split
      · exact h.link _ _ hbegin
      · exact h.takeRequest _ _ _ hs

theorem LinkLaw.takeBroadcast (f : Frame) (m : Master) {s : State} (hs : P s) : P (takeBroadcast f m s) := by
  simp only [Machine.takeBroadcast]
  split
  · exact h.claim _ _ _ _ (h.link _ _ hs)
  · exact h.release _ _ (h.link _ _ hs)

theorem LinkLaw.endFrame {s : State} (hs : P s) : P (endFrame s) := by
  unfold Machine.endFrame
  split
  · exact h.link _ _ (h.link _ _ hs)
  · split
    · exact h.takeBroadcast _ _ hs
    · exact h.takeAddressed _ _ hs

theorem LinkLaw.receiveRequest (m : Master) (tag : Byte) (r : Request) {s : State} (hs : P s) : P (receiveRequest m tag r s) := by
  unfold Machine.receiveRequest
  split
  · exact h.takeRequest _ _ _ hs
  · exact h.takeRequest _ _ _ (h.link _ _ hs)
  · exact hs

theorem LinkLaw.startFrame (data : List Byte) {s : State} (hs : P s) : P (startFrame data s) := by
  unfold Machine.startFrame
  split
  · exact h.link _ _ hs
  · exact h.link _ _ (h.link _ _ hs)
  · exact hs

theorem LinkLaw.beginSegment {s : State} (hs : P s) : P (beginSegment s) := by
  unfold Machine.beginSegment
  split
  · split
    · exact h.link _ _ hs
    · exact hs
  · exact hs

theorem LinkLaw.endResponse {s : State} (hs : P s) : P (endResponse s) := by
  unfold Machine.endResponse
  split
  · split
    · exact h.link _ _ hs
    · exact hs
  · exact hs

end

/-- A command that device reset holds off, and that keeps the law otherwise. -/
theorem next_keeps {P : State → Prop} {f : State → State} {s t : State} (hf : ∀ u, P u → P (f u)) (hs : P s)
    (hn : Host.Outcome.next (unlessReset f s) = (.next t : StepOutcome)) : P t := by
  obtain rfl := Host.Outcome.next.inj hn
  exact unlessReset_keeps hf hs

section

variable {P : State → Prop}

/-- Every command of the link keeps the law. -/
theorem LinkLaw.exec (h : LinkLaw P) {c : Instr} (hc : ofLink c = true) {s t : State} (hs : P s) (ht : exec c s = .next t) : P t := by
  cases c
  case encoderEdge | intervalTimer | referenceMark | spliceEdge | stationMark | strobeEnd | deviceReset | deviceResetRelease =>
    exact Bool.noConfusion (hc : false = true)
  case startDelimiter data => exact next_keeps (fun _ => h.startFrame data) hs ht
  case framePause =>
    refine next_keeps (fun u hu => ?_) hs ht
    split
    · exact h.link _ _ (h.link _ _ hu)
    · exact hu
  case endDelimiter =>
    refine next_keeps (fun u hu => ?_) hs ht
    split
    · exact h.endFrame hu
    · exact hu
  case segmentSend => exact next_keeps (fun _ => h.beginSegment) hs ht
  case finalSegmentEnd => exact next_keeps (fun _ => h.endResponse) hs ht
  all_goals exact next_keeps (fun _ => h.receiveRequest _ _ _) hs ht

theorem CommandLaw.takeEdge (h : CommandLaw P) (e : EncoderEdge) {s : State} (hs : P s) : P (takeEdge e s) := by
  simp only [Machine.takeEdge]
  split
  · exact hs
  · split
    · exact h.due _ (h.edge _ _ hs)
    · exact h.edge _ _ hs

/-- Every command keeps the law. -/
theorem CommandLaw.exec (h : CommandLaw P) {c : Instr} {s t : State} (hs : P s) (ht : exec c s = .next t) : P t := by
  cases c
  case encoderEdge e => exact next_keeps (fun _ => h.takeEdge e) hs ht
  case intervalTimer => exact next_keeps h.interval hs ht
  case referenceMark => exact next_keeps (fun u hu => h.due _ (h.refEnds _ _ (h.mark u hu))) hs ht
  case spliceEdge => exact next_keeps (fun u hu => h.due _ (h.splice u hu)) hs ht
  case stationMark st => exact next_keeps (fun u hu => h.due _ (h.stationMark u st hu)) hs ht
  case strobeEnd l => exact next_keeps (fun u hu => h.knives u _ hu) hs ht
  case deviceReset =>
    obtain rfl := Host.Outcome.next.inj ht
    split
    · exact hs
    · exact h.reset s hs
  case deviceResetRelease a b d =>
    obtain rfl := Host.Outcome.next.inj ht
    split
    · exact h.released s a b d hs
    · exact hs
  all_goals exact h.linkLaw.exec rfl hs ht

end

/-- A step takes the command in front, or leaves an empty queue as it is. -/
theorem step_cases {s t : State} (h : step s = .next t) :
    (s.pending = [] ∧ t = s) ∨ ∃ c rest, s.pending = c :: rest ∧ exec c (s.withPending rest) = .next t := by
  unfold step at h
  split at h
  · next hp => exact .inl ⟨hp, (Host.Outcome.next.inj h).symm⟩
  · next c rest hp => exact .inr ⟨c, rest, hp, h⟩

/-! ### The requests that leave what is registered -/

/-- What the registered positions rest on, with all of the positions and the job slots. -/
def crossingView (s : State) := (s.pos, s.jobs, s.register, s.emboss.lifts, s.emboss.nipReg, s.rolls.knifeReg)

/-- The requests that write the job slots or discard the path. -/
def movesJobs : Request → Bool
  | .setGeometry _ _ _ | .loadJob _ | .armJob | .endJob | .lineReset | .teachOffsets => true
  | _ => false

@[simp] theorem retestCauses_nipReg (s : State) : (retestCauses s).emboss.nipReg = s.emboss.nipReg := by rw [retestCauses_emboss]

@[simp] theorem setLabelState_knifeReg (n : Nat) (st : LabelState) (s : State) :
    (setLabelState n st s).rolls.knifeReg = s.rolls.knifeReg := rfl

@[simp] theorem setLane_knifeReg (l : Lane) (r : LaneRecord) (s : State) : (setLane l r s).rolls.knifeReg = s.rolls.knifeReg := rfl

theorem mergeBack_knifeReg (l : Lane) (c : HistoryEntry) (s : State) : (mergeBack l c s).rolls.knifeReg = s.rolls.knifeReg := by
  simp only [mergeBack, withdrawFromBatch_rolls, setLabelState_knifeReg]
  split <;> simp

/-- The other requests leave the positions, the job slots and every registered position. -/
theorem serve_crossingView (m : Master) {r : Request} (hr : movesJobs r = false) (s : State) :
    crossingView (serve m r s).1 = crossingView s := by
  cases r
  case setGeometry | loadJob | armJob | endJob | lineReset | teachOffsets => exact Bool.noConfusion (hr : true = false)
  case cutFault =>
    simp only [serve, serveCutFault]
    repeat' split
    all_goals simp [crossingView, mergeBack_knifeReg, markCarriesPrior]
  case takeLabel =>
    simp only [serve, serveTakeLabel]
    split
    · rfl
    · simp [crossingView, takeOldestLabel]
  case relabel =>
    simp only [serve, serveRelabel]
    repeat' split
    all_goals simp [crossingView, reissueLabel]
    split <;> simp
  case embossHold => simp [serve, serveEmbossHold, setHold, crossingView]
  case embossRelease => simp [serve, serveEmbossRelease, setHold, crossingView]
  case startRoll =>
    simp only [serve, serveStartRoll]
    split
    · rfl
    · simp [crossingView, forceLanes]
  case claim =>
    simp only [serve, serveClaim]
    split
    · rfl
    · simp [crossingView]
  case release => simp [serve, serveRelease, crossingView]
  case setRunSpeed => simp [serve, serveSetRunSpeed, crossingView]
  case setClaimGate =>
    simp only [serve, serveSetClaimGate]
    split
    · rfl
    · simp [crossingView]
  case readRolls =>
    simp only [serve, serveReadRolls]
    split
    · rfl
    · split <;> rfl
  case status => simp only [serve, serveStatus]; split <;> rfl
  case readRepeat => simp only [serve, serveReadRepeat]; split <;> rfl
  case setNoticeMask => simp only [serve, serveSetNoticeMask]; split <;> rfl
  case setBroadcast => simp only [serve, serveSetBroadcast]; split <;> rfl
  case reseedSampling => simp only [serve, serveReseedSampling]; split <;> rfl
  case setSeedLock => simp only [serve, serveSetSeedLock]; split <;> rfl
  case closeBatch => simp only [serve, serveCloseBatch]; split <;> rfl
  case shadeSample =>
    simp only [serve, serveShadeSample]
    split
    · rfl
    · split <;> rfl
  case defectMark =>
    simp only [serve, serveDefectMark]
    split
    · rfl
    · split <;> rfl
  case retireBatch =>
    simp only [serve, serveRetireBatch]
    split
    · rfl
    · split <;> rfl
  case labelApplied =>
    simp only [serve, serveLabelApplied]
    split
    · rfl
    · split <;> rfl
  case readNotices | takeTrims | readSamplePlan | readBatches => rfl

/-! ### The empty path in SEEKING, over the requests -/

theorem endHead_refState (h : HeadJob) (s : State) : (endHead h s).pos.ref.state = .idle := by
  have hend : (endReference h.record s).pos.ref.state = .idle := by
    simp only [endReference]
    split <;> rfl
  rw [endHead, (StaysPlaced.of_knife (.restKnife _)).ref]
  exact hend

theorem lineReset_pos (s : State) : (lineReset s).pos =
    { s.pos with ref := RefRecord.reset, nextSerial := 1, splices := [], speed := 0 } := by
  have hclose : (allLanes.foldl closeAtLineReset s).pos = s.pos := foldl_keeps (·.pos) _ (fun _ _ => closeAtLineReset_pos _ _) _ _
  rw [lineReset_eq, ← hclose]
  simp only [unitsReset, State.withSpeed_pos, State.withLabels_pos, lanesIdle_pos, State.withRolls_pos, State.withEmboss_pos]
  split
  · rfl
  · rw [noteEmbossMove_pos]; rfl

theorem SeekingClear.of_idle {s : State} (h : s.pos.ref.state = .idle) : SeekingClear s := fun e => RefState.noConfusion (h.symm.trans e)

theorem SeekingClear.serve (m : Master) (r : Request) {s : State} (h : SeekingClear s) : SeekingClear (serve m r s).1 := by
  cases hr : movesJobs r with
  | false =>
    have hv := serve_crossingView m hr s
    simp only [crossingView, Prod.mk.injEq] at hv
    exact h.of_same hv.1 hv.2.1
  | true =>
    cases r
    case setGeometry =>
      simp only [Machine.serve, serveSetGeometry]
      repeat' split
      all_goals exact h
    case loadJob =>
      simp only [Machine.serve, serveLoadJob]
      repeat' split
      all_goals exact h
    case armJob =>
      simp only [Machine.serve, serveArmJob]
      split
      · next hok _ =>
        obtain ⟨j, -, htail, -⟩ := judgeArm_ok hok
        obtain ⟨hjobs, hpos⟩ := armStaged_fields s
        intro hseek
        rw [hjobs]
        by_cases hh : s.jobs.head = none
        · exact ⟨hh, htail⟩
        · rw [hpos, if_neg hh] at hseek
          exact h hseek
      · exact h
    case endJob =>
      simp only [Machine.serve, serveEndJob]
      split
      · exact h
      · exact h
      · exact .of_idle rfl
      · exact .of_idle (endHead_refState _ s)
    case lineReset => exact .of_idle (by rw [show (Machine.serve m .lineReset s).1 = Machine.lineReset s from rfl, lineReset_pos]; rfl)
    case teachOffsets =>
      have hj := (teachAll_jobs s).symm
      intro hseek
      obtain ⟨h1, h2⟩ := h (by simpa [Machine.serve, serveTeachOffsets] using hseek)
      have e1 := hj.head
      have e2 := hj.tail
      rw [h1, Option.map_none] at e1
      rw [h2, Option.map_none] at e2
      exact ⟨Option.map_eq_none_iff.mp e1.symm, Option.map_eq_none_iff.mp e2.symm⟩
    all_goals exact Bool.noConfusion (hr : false = true)

theorem seekingClear_commandLaw : CommandLaw SeekingClear where
  link _ _ h := h
  knives _ _ h := h
  edge _ _ h := h.of_kept rfl rfl (.inl rfl)
  interval _ h := h.asEvent fun _ hu => hu.of_kept (by simp [takeInterval]) (by simp) (.inl (by simp))
  mark _ h := h.asEvent fun _ => .takeReferenceMark
  splice _ h := h.asEvent fun u hu => hu.of_kept (by rw [(StaysPlaced.takeSplice u).ref]) (by simp) (.inl (by simp))
  stationMark _ st h := h.asEvent fun _ hu => hu.of_same (by simp) (by simp)
  request _ m r h := h.asEvent fun _ => .serve m r
  claim _ _ _ _ h := h.asEvent fun _ hu => hu.of_same (by simp) (by simp)
  release _ _ h := h.asEvent fun _ hu => hu.of_same (by simp) (by simp)
  refEnds _ n h := h.takeRefEnds n
  due _ h := h.takeDue
  drained _ h := h.drain
  reset _ _ := .of_idle rfl
  released _ _ _ _ h := h.of_kept rfl rfl (.inl rfl)

/-! ### O54 -/

theorem Keeps.assertReset (s : State) : Keeps s (assertReset s) := by
  obtain ⟨hp, hl, hj, hpath, hg, hc, -⟩ := resetIsSound
  exact ⟨fun _ => hp, fun _ => hl, fun _ => hj, fun _ _ => ((pathSound_iff _).mp hpath).1, fun _ => hg, fun _ => hc⟩

theorem Keeps.releaseReset (a b d : Bool) (s : State) : Keeps s (releaseReset a b d s) :=
  .of (position := fun ⟨h1, h2, h3, _⟩ => ⟨h1, h2, h3, Nat.le_refl _⟩) (lists := listsBounded_of_view rfl) (jobs := jobsSound_of_jobs rfl)
    (path := fun _ => pathAgrees_of_view rfl) (counter := .inl rfl)

theorem keeps_commandLaw (s : State) : CommandLaw (Keeps s) where
  link _ _ h := h.trans .of
  knives _ _ h := h.trans .of
  edge _ f h := h.trans (.countEdge f _)
  interval _ h := h.trans (.asEvent .takeInterval _)
  mark _ h := h.trans (.asEvent .takeReferenceMark _)
  splice _ h := h.trans (.asEvent .takeSplice _)
  stationMark _ st h := h.trans (.asEvent (.takeStationMark st) _)
  request _ m r h := h.trans (.asEvent (.serve m r) _)
  claim _ m l v h := h.trans (.asEvent (fun _ => .of) _)
  release _ m h := h.trans (.asEvent (fun _ => .of) _)
  refEnds _ n h := h.trans (.takeRefEnds n _)
  due _ h := h.trans (.takeDue _)
  drained _ h := h.trans (.drain _)
  reset _ h := h.trans (.assertReset _)
  released _ a b d h := h.trans (.releaseReset a b d _)

theorem Keeps.withPending (cs : List Instr) (s : State) : Keeps s (s.withPending cs) := .of

/-- A step keeps the bounds. -/
theorem Keeps.step {s t : State} (h : step s = .next t) : Keeps s t := by
  rcases step_cases h with ⟨-, rfl⟩ | ⟨c, rest, -, he⟩
  · exact .refl _
  · exact (keeps_commandLaw s).exec (.withPending rest s) he

theorem SeekingClear.step {s t : State} (hs : SeekingClear s) (h : step s = .next t) : SeekingClear t := by
  rcases step_cases h with ⟨-, rfl⟩ | ⟨c, rest, -, he⟩
  · exact hs
  · exact seekingClear_commandLaw.exec (s := s.withPending rest) hs he

/-- Settles O54: each part of a command keeps the bounds (`keeps_commandLaw`), and the empty path in SEEKING
(`seekingClear_commandLaw`). -/
theorem stepKeepsBounds : Obligations.StepKeepsBounds := by
  intro s t h
  have hk := Keeps.step h
  refine ⟨hk.position, hk.lists, hk.jobs, fun hj hp => ?_, hk.generator, hk.counters⟩
  obtain ⟨hagree, hclear⟩ := (pathSound_iff s).mp hp
  exact (pathSound_iff t).mpr ⟨hk.path hj hagree, hclear.step h⟩

end Sys2Proof.Machine

/-! O55, the work that is left: how far the web map and the stations' cursors have moved on, which no operation but a creation takes
back. -/

namespace Sys2Proof.Machine

open Sys2Proof

/-! ### How the web map and the cursors move on -/

/-- The serials in the ring, oldest first. -/
def ringSerials (s : State) : List Nat := s.map.ring.map (·.serial)

/-- From `s` to `t` records may have left the ring, and the nip and the knife cursor have moved on. -/
structure WebOnward (s t : State) : Prop where
  ring : (ringSerials t).Sublist (ringSerials s)
  nip : s.map.nipCursor ≤ t.map.nipCursor
  knife : s.map.knifeCursor ≤ t.map.knifeCursor

/-- From `s` to `t` the cursors of the stations have moved on, or their stations are OFF. -/
def CursorsOnward (s t : State) : Prop :=
  ∀ st c', (t.register.get st).cursor = some c' → ∃ c, (s.register.get st).cursor = some c ∧ c ≤ c'

theorem WebOnward.refl (s : State) : WebOnward s s := ⟨.refl _, Nat.le_refl _, Nat.le_refl _⟩

theorem WebOnward.trans {s t u : State} (h : WebOnward s t) (k : WebOnward t u) : WebOnward s u :=
  ⟨k.ring.trans h.ring, h.nip.trans k.nip, h.knife.trans k.knife⟩

theorem CursorsOnward.refl (s : State) : CursorsOnward s s := fun _ c' h => ⟨c', h, Nat.le_refl _⟩

theorem CursorsOnward.trans {s t u : State} (h : CursorsOnward s t) (k : CursorsOnward t u) : CursorsOnward s u := by
  intro st c'' h''
  obtain ⟨c', h', hle'⟩ := k st c'' h''
  obtain ⟨c, hc, hle⟩ := h st c' h'
  exact ⟨c, hc, hle.trans hle'⟩

theorem CursorsOnward.of_register {s t : State} (h : t.register = s.register) : CursorsOnward s t := fun _ c' hc => ⟨c', h ▸ hc, Nat.le_refl _⟩

theorem ringSerials_of_printedMap {s t : State} (h : (printedMap t).ring = (printedMap s).ring) : ringSerials t = ringSerials s :=
  ring_map_of_printedMap (g := (·.serial)) (fun _ => rfl) h

theorem WebOnward.of_printedMap {s t : State} {c : Nat} (hc : s.map.nipCursor ≤ c)
    (h : printedMap t = { printedMap s with nipCursor := c }) : WebOnward s t := by
  refine ⟨?_, ?_, ?_⟩
  · rw [ringSerials_of_printedMap (s := s) (by rw [h])]
  · exact hc.trans_eq (congrArg WebMap.nipCursor h).symm
  · exact (congrArg WebMap.knifeCursor h).symm.le

theorem WebOnward.of_map {s t : State} (h : t.map = s.map) : WebOnward s t :=
  ⟨by rw [ringSerials, h]; exact .refl _, by rw [h], by rw [h]⟩

theorem WebOnward.of_knife {s t : State} (h : KnifeActs s t) : WebOnward s t := by
  obtain ⟨n, hn⟩ := h.ring
  refine ⟨?_, h.nip.ge, h.knife⟩
  rw [ringSerials, hn, List.map_drop]
  exact List.drop_sublist _ _

theorem CursorsOnward.of_knife {s t : State} (h : KnifeActs s t) : CursorsOnward s t := by
  intro st c' hc
  rcases h.stations st with e | e <;> rw [e] at hc
  · exact ⟨c', hc, Nat.le_refl _⟩
  · exact absurd hc (by simp [StationRecord.off])

/-! ### The stations' cursors -/

/-- A station's record is replaced by one whose cursor has moved on. -/
theorem CursorsOnward.setStation {st : Station} {r : StationRecord} {s : State}
    (h : ∀ c', r.cursor = some c' → ∃ c, (s.register.get st).cursor = some c ∧ c ≤ c') : CursorsOnward s (setStation st r s) := by
  intro x c' hc
  by_cases hx : x = st
  · subst hx
    exact h c' (by simpa [Machine.setStation] using hc)
  · exact ⟨c', by simpa [Machine.setStation, PerStation.get_set_other _ _ _ _ hx] using hc, Nat.le_refl _⟩

/-- A station's record is replaced by one with the same cursor. -/
theorem CursorsOnward.setStation_same {st : Station} {r : StationRecord} {s : State} (h : r.cursor = (s.register.get st).cursor) :
    CursorsOnward s (Machine.setStation st r s) := .setStation fun c' hc => ⟨c', h ▸ hc, Nat.le_refl _⟩

theorem CursorsOnward.advanceCursor (st : Station) (s : State) : CursorsOnward s (advanceCursor st s) := by
  refine .setStation fun c' hc => ?_
  obtain ⟨c, h, rfl⟩ := Option.map_eq_some_iff.mp hc
  exact ⟨c, h, Nat.le_succ c⟩

theorem CursorsOnward.writeResult (st : Station) (n : Nat) (res : StationResult) (s : State) :
    CursorsOnward s (writeResult st n res s) := .of_register (by simp)

theorem CursorsOnward.skipRecord (st : Station) (n : Nat) (s : State) : CursorsOnward s (skipRecord st n s) := by
  have h (u : State) : CursorsOnward u (Machine.setStation st { u.register.get st with deferredMiss := false } u) := .setStation_same rfl
  exact (CursorsOnward.writeResult st n .skipped s).trans ((h _).trans (.advanceCursor _ _))

theorem CursorsOnward.enterLost (st : Station) (s : State) : CursorsOnward s (enterLost st s) := by
  have h : CursorsOnward s (Machine.setStation st { s.register.get st with state := .lost } s) := .setStation_same rfl
  exact h.trans (.of_register (by simp [Machine.enterLost]))

theorem CursorsOnward.stationOff (st : Station) (s : State) : CursorsOnward s (stationOff st s) := by
  have h : CursorsOnward s (Machine.setStation st StationRecord.off s) := .setStation fun _ hc => absurd hc (by simp [StationRecord.off])
  simp only [Machine.stationOff]
  split
  · exact h.trans (.of_register (by simp))
  · exact h

theorem publishTrim_cursor (limit : Nat) (acc : Int) (r : StationRecord) : (publishTrim limit acc r).cursor = r.cursor := rfl

theorem CursorsOnward.switchStation (st : Station) (rec : Repeat) (s : State) : CursorsOnward s (switchStation st rec s) := by
  unfold Machine.switchStation
  split
  · exact .stationOff st s
  · next j e _ =>
    have h : CursorsOnward s (Machine.setStation st
        (publishTrim e.trimLimit (s.register.get st).accumulator
          { s.register.get st with job := some rec.job, teachReady := false }) s) := .setStation_same (publishTrim_cursor _ _ _)
    simp only
    split
    · split
      · exact h.trans (.enterLost st _)
      · exact h
    · split
      · exact h.trans (.enterLost st _)
      · exact h
    · exact h.trans (.of_register (by simp))
    all_goals exact h

theorem CursorsOnward.placeWindow (st : Station) (rec : Repeat) (s : State) : CursorsOnward s (placeWindow st rec s) := by
  unfold Machine.placeWindow
  repeat' split
  · exact .refl s
  · exact .refl s
  · exact .setStation_same rfl

theorem CursorsOnward.missRecord (st : Station) (rec : Repeat) (s : State) : CursorsOnward s (missRecord st rec s) := by
  simp only [Machine.missRecord]
  refine CursorsOnward.trans ?_ (.advanceCursor _ _)
  have h (r : StationRecord) (hr : r.cursor = (s.register.get st).cursor) :
      CursorsOnward s (Machine.setStation st r (Machine.writeResult st rec.serial .missed s)) :=
    (CursorsOnward.writeResult st rec.serial .missed s).trans (.setStation_same hr)
  split
  · exact (h _ (by rfl)).trans (.enterLost _ _)
  · exact h _ (by rfl)

theorem CursorsOnward.deferMiss (st : Station) (s : State) : CursorsOnward s (deferMiss st s) := .setStation_same rfl

theorem CursorsOnward.settleStation (st : Station) (n : Nat) (s : State) : CursorsOnward s (settleStation st n s) := by
  induction n generalizing s with
  | zero => exact .refl s
  | succ n ih =>
    unfold Machine.settleStation
    repeat' split
    · exact .refl s
    · exact (CursorsOnward.switchStation _ _ s).trans (ih _)
    · exact (CursorsOnward.advanceCursor _ s).trans (ih _)
    · exact (CursorsOnward.skipRecord _ _ s).trans (ih _)
    · exact .refl s
    · exact (CursorsOnward.placeWindow _ _ s).trans (.deferMiss _ _)
    · exact (CursorsOnward.placeWindow _ _ s).trans ((CursorsOnward.missRecord _ _ _).trans (ih _))
    · exact .placeWindow _ _ s

theorem CursorsOnward.restStation (st : Station) (s : State) : CursorsOnward s (restStation st s) := .settleStation _ _ s

theorem CursorsOnward.foldl {α : Type} {f : State → α → State} (h : ∀ s a, CursorsOnward s (f s a)) (xs : List α) (s : State) :
    CursorsOnward s (xs.foldl f s) := by
  induction xs generalizing s with
  | nil => exact .refl s
  | cons a as ih => exact (h s a).trans (ih _)

theorem CursorsOnward.recheckStations (s : State) : CursorsOnward s (recheckStations s) :=
  .foldl (fun s st => .restStation st s) _ s

theorem CursorsOnward.station7Status (n : Nat) (s : State) : CursorsOnward s (station7Status n s) := by
  have h : CursorsOnward s (Machine.setStation .s7 { s.register.get .s7 with deferredMiss := false } s) := .setStation_same rfl
  simp only [Machine.station7Status]
  split
  · exact .refl s
  · split
    · exact .refl s
    · split
      · split
        · exact h.trans ((CursorsOnward.missRecord _ _ _).trans (.restStation _ _))
        · exact h
      · exact h.trans (.restStation _ _)

theorem CursorsOnward.passNip (rec : Repeat) (s : State) : CursorsOnward s (passNip rec s) := by
  simp only [Machine.passNip]
  exact CursorsOnward.trans (.of_register (by simp)) (.station7Status _ _)

theorem CursorsOnward.settleNip (n : Nat) (s : State) : CursorsOnward s (settleNip n s) := by
  induction n generalizing s with
  | zero => exact .of_register rfl
  | succ n ih =>
    unfold Machine.settleNip
    split
    · exact .of_register rfl
    · simp only
      split
      · exact CursorsOnward.trans (.of_register (arriveAtNip_register _ s)) ((CursorsOnward.passNip _ _).trans (ih _))
      · exact .of_register (by simp)

/-- Without a change point no station starts, and the cursors move on alone (R60). -/
theorem CursorsOnward.stationsAtCreation {rec : Repeat} (h : rec.changePoint = false) (s : State) :
    CursorsOnward s (stationsAtCreation rec s) := by
  refine .foldl (fun s st => ?_) _ s
  unfold stationAtCreation
  rw [h]
  split
  · exact .refl s
  · split
    · exact .restStation _ s
    · exact .refl s

/-! ### What one station touches -/

/-- A record without one station's result. -/
def Repeat.without (st : Station) (r : Repeat) : Repeat := { r with results := r.results.set st .pending }

/-- From `s` to `t` no other station's record and no other station's result differ. -/
structure OnlyStation (st : Station) (s t : State) : Prop where
  register : ∀ x, x ≠ st → t.register.get x = s.register.get x
  ring : t.map.ring.map (Repeat.without st) = s.map.ring.map (Repeat.without st)

theorem OnlyStation.refl (st : Station) (s : State) : OnlyStation st s s := ⟨fun _ _ => rfl, rfl⟩

theorem OnlyStation.trans {st : Station} {s t u : State} (h : OnlyStation st s t) (k : OnlyStation st t u) : OnlyStation st s u :=
  ⟨fun x hx => (k.register x hx).trans (h.register x hx), k.ring.trans h.ring⟩

theorem OnlyStation.of_same {st : Station} {s t : State} (hr : t.register = s.register) (hm : t.map = s.map) : OnlyStation st s t :=
  ⟨fun _ _ => by rw [hr], by rw [hm]⟩

theorem OnlyStation.setStation (st : Station) (r : StationRecord) (s : State) : OnlyStation st s (setStation st r s) :=
  ⟨fun _ hx => PerStation.get_set_other _ _ _ _ hx, rfl⟩

theorem PerStation.set_set {α : Type} (t : PerStation α) (i : Station) (v w : α) : (t.set i v).set i w = t.set i w := by
  cases i <;> rfl

theorem OnlyStation.writeResult (st : Station) (n : Nat) (res : StationResult) (s : State) : OnlyStation st s (writeResult st n res s) :=
  ⟨fun _ _ => by simp, updateRepeat_ring_map (fun r => by simp [Repeat.without, PerStation.set_set]) n s⟩

theorem OnlyStation.advanceCursor (st : Station) (s : State) : OnlyStation st s (advanceCursor st s) := .setStation _ _ _

theorem OnlyStation.skipRecord (st : Station) (n : Nat) (s : State) : OnlyStation st s (skipRecord st n s) :=
  (OnlyStation.writeResult st n .skipped s).trans ((OnlyStation.setStation _ _ _).trans (.advanceCursor _ _))

theorem OnlyStation.updateRegClaim (st : Station) (s : State) : OnlyStation st s (updateRegClaim s) :=
  .of_same (updateRegClaim_register s) (updateRegClaim_map s)

theorem OnlyStation.enterLost (st : Station) (s : State) : OnlyStation st s (enterLost st s) := by
  have h (u : State) : OnlyStation st u (raiseNotice .stationLost u) := .of_same rfl rfl
  exact (OnlyStation.setStation st _ s).trans ((h _).trans (.updateRegClaim st _))

theorem OnlyStation.stationOff (st : Station) (s : State) : OnlyStation st s (stationOff st s) :=
  ⟨fun x hx => by rw [stationOff_register]; exact PerStation.get_set_other _ _ _ _ hx, by simp⟩

theorem OnlyStation.switchStation (st : Station) (rec : Repeat) (s : State) : OnlyStation st s (switchStation st rec s) := by
  unfold Machine.switchStation
  split
  · exact .stationOff st s
  · simp only
    split
    · split
      · exact (OnlyStation.setStation _ _ _).trans (.enterLost st _)
      · exact .setStation _ _ _
    · split
      · exact (OnlyStation.setStation _ _ _).trans (.enterLost st _)
      · exact .setStation _ _ _
    · exact (OnlyStation.setStation _ _ _).trans (.updateRegClaim st _)
    all_goals exact .setStation _ _ _

theorem OnlyStation.placeWindow (st : Station) (rec : Repeat) (s : State) : OnlyStation st s (placeWindow st rec s) := by
  unfold Machine.placeWindow
  repeat' split
  · exact .refl st s
  · exact .refl st s
  · exact .setStation _ _ _

theorem OnlyStation.missRecord (st : Station) (rec : Repeat) (s : State) : OnlyStation st s (missRecord st rec s) := by
  simp only [Machine.missRecord]
  refine OnlyStation.trans ?_ (.advanceCursor _ _)
  split
  · exact (OnlyStation.writeResult _ _ _ s).trans ((OnlyStation.setStation _ _ _).trans (.enterLost _ _))
  · exact (OnlyStation.writeResult _ _ _ s).trans (.setStation _ _ _)

theorem OnlyStation.settleStation (st : Station) (n : Nat) (s : State) : OnlyStation st s (settleStation st n s) := by
  induction n generalizing s with
  | zero => exact .refl st s
  | succ n ih =>
    unfold Machine.settleStation
    repeat' split
    · exact .refl st s
    · exact (OnlyStation.switchStation _ _ s).trans (ih _)
    · exact (OnlyStation.advanceCursor _ s).trans (ih _)
    · exact (OnlyStation.skipRecord _ _ s).trans (ih _)
    · exact .refl st s
    · exact (OnlyStation.placeWindow _ _ s).trans (.setStation _ _ _)
    · exact (OnlyStation.placeWindow _ _ s).trans ((OnlyStation.missRecord _ _ _).trans (ih _))
    · exact .placeWindow _ _ s

theorem OnlyStation.restStation (st : Station) (s : State) : OnlyStation st s (restStation st s) := .settleStation _ _ s

theorem OnlyStation.stationMiss (st : Station) (rec : Repeat) (s : State) : OnlyStation st s (stationMiss st rec s) :=
  (OnlyStation.missRecord st rec s).trans (.restStation st _)

theorem OnlyStation.stationWindowEnd (st : Station) (s : State) : OnlyStation st s (stationWindowEnd st s) := by
  unfold Machine.stationWindowEnd
  split
  · exact .setStation _ _ _
  · split
    · exact .setStation _ _ _
    · exact .stationMiss _ _ s

theorem OnlyStation.station7Status (n : Nat) (s : State) : OnlyStation .s7 s (station7Status n s) := by
  simp only [Machine.station7Status]
  split
  · exact .refl _ s
  · split
    · exact .refl _ s
    · split
      · split
        · exact (OnlyStation.setStation _ _ _).trans (.stationMiss _ _ _)
        · exact .setStation _ _ _
      · exact (OnlyStation.setStation _ _ _).trans (.restStation _ _)

/-! ### The records that lie ahead of a cursor -/

/-- How many records of the ring have a serial from `n` on. -/
def recordsFrom (n : Nat) (s : State) : Nat := (ringSerials s).countP (n ≤ ·)

theorem recordsFrom_le_length (n : Nat) (s : State) : recordsFrom n s ≤ s.map.ring.length :=
  List.countP_le_length.trans_eq (List.length_map _)

theorem recordsFrom_mono {s t : State} (h : (ringSerials t).Sublist (ringSerials s)) {m n : Nat} (hn : m ≤ n) :
    recordsFrom n t ≤ recordsFrom m s := by
  refine (h.countP_le).trans (List.countP_mono_left fun x _ hx => ?_)
  simp only [decide_eq_true_eq] at hx ⊢
  omega

/-- A cursor that moves past its record has fewer records ahead. -/
theorem recordsFrom_succ_lt {n : Nat} {s : State} {r : Repeat} (h : findRepeat n s = some r) : recordsFrom (n + 1) s < recordsFrom n s := by
  obtain ⟨hn, hr⟩ := findRepeat_eq_some h
  have hmem : n ∈ ringSerials s := hn ▸ List.mem_map_of_mem hr
  unfold recordsFrom
  rw [List.countP_eq_length_filter, List.countP_eq_length_filter]
  have hsub : (ringSerials s).filter (fun x => decide (n + 1 ≤ x)) = ((ringSerials s).filter (fun x => decide (n ≤ x))).filter (fun x => decide (n + 1 ≤ x)) := by
    rw [List.filter_filter]
    refine List.filter_congr fun x _ => ?_
    simp only [Bool.and_eq_decide, decide_eq_true_eq, decide_eq_decide]
    omega
  rw [hsub]
  refine List.length_filter_lt_length_iff_exists.mpr ⟨n, List.mem_filter.mpr ⟨hmem, by simp⟩, by simp⟩

end Sys2Proof.Machine

/-! O55, the measure: the work of a state bounds the crossings that draining it can take, and every due crossing but a window end of the
reference lowers it. -/

namespace Sys2Proof.Machine

open Sys2Proof

/-! ### The measure -/

/-- The records of the ring from a station's cursor on. -/
def cursorWork (s : State) (st : Station) : Nat := ((s.register.get st).cursor.map (recordsFrom · s)).getD 0

/-- 1 while a station has a window end registered. -/
def endWork (s : State) (st : Station) : Nat := oneIf (stationEnd s st).isSome

/-- The crossings that the stations have before them. -/
def stationsWork (s : State) : Nat := (allStations.map fun st => cursorWork s st + endWork s st).sum

/-- The crossings that an entry of the splice lift list has before it: its start while PENDING, and its end. -/
def liftWork (l : SpliceLift) : Nat :=
  match l.state with
  | .pending => 2
  | .inForce => 1

def liftsWork (lifts : List SpliceLift) : Nat := (lifts.map liftWork).sum

/-- The crossings at the records and the splice lifts that are held. A nip crossing counts twice, since station 7 may take up a
window end at it. -/
def webWork (s : State) : Nat :=
  stationsWork s + 2 * recordsFrom s.map.nipCursor s + liftsWork s.emboss.lifts + recordsFrom s.map.knifeCursor s

/-- What a change point, of which an armed job gives one, may add at the stations: each may start over at the ring's oldest record. -/
def armedWork (s : State) : Nat := if (armedJob s).isSome then 7 * (s.map.ring.length + 1) else 0

/-- The travel in which the reference can still reach window ends. -/
def refWork (s : State) : Nat := (s.pos.ref.newestStart.map (s.pos.highWater - ·)).getD 0

/-- A bound on the crossings that draining takes. -/
def work (s : State) : Nat :=
  refWork s + armedWork s + webWork s + oneIf s.emboss.nipReg.isSome + oneIf s.rolls.knifeReg.isSome

@[simp] theorem oneIf_true : oneIf true = 1 := rfl

@[simp] theorem oneIf_false : oneIf false = 0 := rfl

theorem oneIf_le (b : Bool) : oneIf b ≤ 1 := by cases b <;> decide

theorem cursorWork_le (s : State) (st : Station) : cursorWork s st ≤ s.map.ring.length := by
  unfold cursorWork
  cases (s.register.get st).cursor with
  | none => exact Nat.zero_le _
  | some c => exact recordsFrom_le_length c s

theorem endWork_le (s : State) (st : Station) : endWork s st ≤ 1 := oneIf_le _

/-- A sum over the stations, term by term. -/
theorem stations_sum_le {f g : Station → Nat} (c : Nat) (h : ∀ st, f st ≤ g st + c) :
    (allStations.map f).sum ≤ (allStations.map g).sum + 7 * c := by
  have h1 := h .s1
  have h2 := h .s2
  have h3 := h .s3
  have h4 := h .s4
  have h5 := h .s5
  have h6 := h .s6
  have h7 := h .s7
  simp only [allStations, List.map_cons, List.map_nil, List.sum_cons, List.sum_nil]
  omega

/-- A sum over the stations that rises at one of them alone. -/
theorem stations_sum_one {f g : Station → Nat} {st : Station} {a b : Nat} (h : ∀ x, x ≠ st → f x ≤ g x) (hst : f st + a ≤ g st + b) :
    (allStations.map f).sum + a ≤ (allStations.map g).sum + b := by
  have hsplit (k : Station → Nat) : (allStations.map k).sum = k st + ((allStations.erase st).map k).sum :=
    ((List.perm_cons_erase (mem_allStations st)).map k).sum_eq
  have hrest : ((allStations.erase st).map f).sum ≤ ((allStations.erase st).map g).sum :=
    List.sum_le_sum fun x hx => h x (((List.Nodup.mem_erase_iff (by decide)).mp hx).1)
  rw [hsplit f, hsplit g]
  omega

theorem stationsWork_le (s : State) : stationsWork s ≤ 7 * (s.map.ring.length + 1) := by
  have h : stationsWork s ≤ (allStations.map fun _ => 0).sum + 7 * (s.map.ring.length + 1) :=
    stations_sum_le _ fun st => by
      have h1 := cursorWork_le s st
      have h2 := endWork_le s st
      omega
  simpa [allStations] using h

theorem liftsWork_le (lifts : List SpliceLift) : liftsWork lifts ≤ 2 * lifts.length := by
  induction lifts with
  | nil => exact Nat.le_refl _
  | cons l ls ih =>
    have : liftWork l ≤ 2 := by unfold liftWork; split <;> omega
    simp only [liftsWork, List.map_cons, List.sum_cons, List.length_cons] at ih ⊢
    omega

/-- The bound of a step's crossings covers the work (notes/assumptions/13.md). -/
theorem work_le_drainBound (s : State) : work s ≤ drainBound s := by
  have h1 := stationsWork_le s
  have h2 := recordsFrom_le_length s.map.nipCursor s
  have h3 := recordsFrom_le_length s.map.knifeCursor s
  have h4 := liftsWork_le s.emboss.lifts
  have h5 : refWork s ≤ s.pos.highWater := by
    unfold refWork
    cases s.pos.ref.newestStart <;> simp
  have h6 : armedWork s ≤ 7 * (s.map.ring.length + 1) := by unfold armedWork; split <;> omega
  have h7 := oneIf_le s.emboss.nipReg.isSome
  have h8 := oneIf_le s.rolls.knifeReg.isSome
  unfold work webWork drainBound
  omega

/-! ### What moving on leaves -/

theorem cursorWork_onward {s t : State} (hr : (ringSerials t).Sublist (ringSerials s)) {st : Station}
    (h : ∀ c', (t.register.get st).cursor = some c' → ∃ c, (s.register.get st).cursor = some c ∧ c ≤ c') : cursorWork t st ≤ cursorWork s st := by
  unfold cursorWork
  cases ht : (t.register.get st).cursor with
  | none => exact Nat.zero_le _
  | some c' =>
    obtain ⟨c, hc, hle⟩ := h c' ht
    rw [hc]
    exact recordsFrom_mono hr hle

/-- A station's cursor moves past the record it rests on. -/
theorem cursorWork_past {s t : State} (hr : (ringSerials t).Sublist (ringSerials s)) {st : Station} {c : Nat} {rec : Repeat}
    (hc : (s.register.get st).cursor = some c) (hrec : findRepeat c s = some rec)
    (h : ∀ c', (t.register.get st).cursor = some c' → c + 1 ≤ c') : cursorWork t st < cursorWork s st := by
  have hpast := recordsFrom_succ_lt hrec
  unfold cursorWork
  rw [hc, Option.map_some, Option.getD_some]
  cases ht : (t.register.get st).cursor with
  | none => exact Nat.zero_lt_of_lt hpast
  | some c' => exact (recordsFrom_mono hr (h c' ht)).trans_lt hpast

theorem endWork_of_register {s t : State} {st : Station} (h : t.register.get st = s.register.get st) : endWork t st = endWork s st := by
  simp only [endWork, stationEnd, h]

/-- What a change of one station leaves of the stations' work. -/
theorem stationsWork_one {s t : State} {st : Station} {a b : Nat} (hr : (ringSerials t).Sublist (ringSerials s))
    (hc : CursorsOnward s t) (ho : ∀ x, x ≠ st → t.register.get x = s.register.get x)
    (hst : cursorWork t st + endWork t st + a ≤ cursorWork s st + endWork s st + b) : stationsWork t + a ≤ stationsWork s + b :=
  stations_sum_one (fun x hx => Nat.add_le_add (cursorWork_onward hr (hc x)) (endWork_of_register (ho x hx)).le) hst

/-- What any movement of the stations leaves of their work: each may have a window end registered anew. -/
theorem stationsWork_onward {s t : State} (hr : (ringSerials t).Sublist (ringSerials s)) (hc : CursorsOnward s t) :
    stationsWork t ≤ stationsWork s + 7 :=
  stations_sum_le 1 fun st => by
    have h1 := cursorWork_onward hr (hc st)
    have h2 := endWork_le t st
    omega

theorem recordsFrom_nip {s t : State} (h : WebOnward s t) : recordsFrom t.map.nipCursor t ≤ recordsFrom s.map.nipCursor s :=
  recordsFrom_mono h.ring h.nip

theorem recordsFrom_knife {s t : State} (h : WebOnward s t) : recordsFrom t.map.knifeCursor t ≤ recordsFrom s.map.knifeCursor s :=
  recordsFrom_mono h.ring h.knife

theorem armedWork_onward {s t : State} (hj : t.jobs.staged = s.jobs.staged) (hr : (ringSerials t).Sublist (ringSerials s)) :
    armedWork t ≤ armedWork s := by
  have hlen : t.map.ring.length ≤ s.map.ring.length := by simpa [ringSerials] using hr.length_le
  unfold armedWork
  rw [armedJob_of_staged hj]
  split <;> omega

/-! ### A station's window end -/

theorem cursorRepeat_eq_some {st : Station} {s : State} {rec : Repeat} (h : cursorRepeat st s = some rec) :
    ∃ c, (s.register.get st).cursor = some c ∧ findRepeat c s = some rec := Option.bind_eq_some_iff.mp h

theorem missRecord_cursor {st : Station} {rec : Repeat} {s : State} {c c' : Nat} (hc : (s.register.get st).cursor = some c)
    (h : ((missRecord st rec s).register.get st).cursor = some c') : c' = c + 1 := by
  have hset (r : StationRecord) (u : State) : ((setStation st r u).register.get st) = r := PerStation.get_set_same _ _ _
  have hlost (u : State) : ((enterLost st u).register.get st).cursor = (u.register.get st).cursor := by
    simp only [enterLost, updateRegClaim_register, raiseNotice_register, hset]
  simp only [missRecord, advanceCursor, hset] at h
  split at h
  · rw [hlost, hset] at h
    simpa [hc] using h.symm
  · rw [hset] at h
    simpa [hc] using h.symm

/-- A miss takes the station past its record (R69). -/
theorem stationMiss_cursorWork {st : Station} {rec : Repeat} {s : State} (h : cursorRepeat st s = some rec) :
    cursorWork (stationMiss st rec s) st < cursorWork s st := by
  obtain ⟨c, hc, hrec⟩ := cursorRepeat_eq_some h
  have hr : ringSerials (stationMiss st rec s) = ringSerials s := ringSerials_of_printedMap (by rw [stationMiss_printedMap])
  refine cursorWork_past (by rw [hr]) hc hrec fun c' hc' => ?_
  obtain ⟨c'', h'', hle⟩ := CursorsOnward.restStation st (missRecord st rec s) st c' hc'
  rw [missRecord_cursor hc h''] at hle
  exact hle

theorem CursorsOnward.stationMiss (st : Station) (rec : Repeat) (s : State) : CursorsOnward s (stationMiss st rec s) :=
  (CursorsOnward.missRecord st rec s).trans (.restStation st _)

theorem CursorsOnward.stationWindowEnd (st : Station) (s : State) : CursorsOnward s (stationWindowEnd st s) := by
  unfold Machine.stationWindowEnd
  split
  · exact .setStation_same rfl
  · split
    · exact .deferMiss st s
    · exact .stationMiss st _ s

/-- A station without a window, or with its deferred miss set, has no window end registered. -/
theorem endWork_setStation {st : Station} {r : StationRecord} {s : State} (h : r.deferredMiss = true ∨ r.window = none) :
    endWork (setStation st r s) st = 0 := by
  simp only [endWork, stationEnd, setStation, State.withRegister_register, PerStation.get_set_same]
  rcases h with h | h <;> simp [h]

theorem ringSerials_stationWindowEnd (st : Station) (s : State) : ringSerials (stationWindowEnd st s) = ringSerials s :=
  ringSerials_of_printedMap (by rw [stationWindowEnd_printedMap])

/-- A window end of a station that has one registered lowers the stations' work (R65, R69). -/
theorem stationWindowEnd_work {st : Station} {s : State} (h : (stationEnd s st).isSome = true) :
    stationsWork (stationWindowEnd st s) < stationsWork s := by
  have hr : (ringSerials (stationWindowEnd st s)).Sublist (ringSerials s) := by rw [ringSerials_stationWindowEnd]
  have hc := CursorsOnward.stationWindowEnd st s
  have hend : endWork s st = 1 := by simp [endWork, h]
  refine Nat.lt_of_succ_le (stationsWork_one (a := 1) (b := 0) hr hc (OnlyStation.stationWindowEnd st s).register ?_)
  have hle := cursorWork_onward hr (hc st)
  cases hcr : cursorRepeat st s with
  | none =>
    have heq : stationWindowEnd st s = setStation st { s.register.get st with window := none } s := by simp [stationWindowEnd, hcr]
    have hzero : endWork (stationWindowEnd st s) st = 0 := by rw [heq]; exact endWork_setStation (.inr rfl)
    omega
  | some rec =>
    cases hdef : defersMiss st rec with
    | true =>
      have heq : stationWindowEnd st s = deferMiss st s := by simp [stationWindowEnd, hcr, hdef]
      have hzero : endWork (stationWindowEnd st s) st = 0 := by rw [heq]; exact endWork_setStation (.inl rfl)
      omega
    | false =>
      have heq : stationWindowEnd st s = stationMiss st rec s := by simp [stationWindowEnd, hcr, hdef]
      have hlt := stationMiss_cursorWork hcr
      have hone := endWork_le (stationMiss st rec s) st
      rw [heq]
      omega

/-! ### The nip -/

theorem webOnward_passNip (rec : Repeat) (s : State) : WebOnward s (passNip rec s) := .of_printedMap (Nat.le_succ _) (passNip_printedMap rec s)

theorem passNip_nipCursor (rec : Repeat) (s : State) : (passNip rec s).map.nipCursor = s.map.nipCursor + 1 :=
  congrArg WebMap.nipCursor (passNip_printedMap rec s)

theorem liftsWork_sublist {l m : List SpliceLift} (h : l.Sublist m) : liftsWork l ≤ liftsWork m :=
  List.Sublist.sum_le_sum (h.map _) fun _ _ => Nat.zero_le _

/-- Station 7 alone is touched at the nip. -/
theorem passNip_register {rec : Repeat} {s : State} {x : Station} (hx : x ≠ .s7) :
    (passNip rec s).register.get x = s.register.get x := by
  simp only [passNip]
  rw [(OnlyStation.station7Status _ _).register x hx]
  simp

/-- Passing the record at the nip cursor lowers the web's work (R90). -/
theorem passNip_work {rec : Repeat} {s : State} (h : findRepeat s.map.nipCursor s = some rec) : webWork (passNip rec s) < webWork s := by
  have hw := webOnward_passNip rec s
  have hc := CursorsOnward.passNip rec s
  have hst : stationsWork (passNip rec s) + 0 ≤ stationsWork s + 1 := by
    refine stationsWork_one hw.ring hc (fun x hx => passNip_register hx) ?_
    have := cursorWork_onward hw.ring (hc .s7)
    have := endWork_le (passNip rec s) .s7
    omega
  have hnip : recordsFrom (s.map.nipCursor + 1) (passNip rec s) < recordsFrom s.map.nipCursor s :=
    (recordsFrom_mono hw.ring (Nat.le_refl _)).trans_lt (recordsFrom_succ_lt h)
  have hl : liftsWork (passNip rec s).emboss.lifts ≤ liftsWork s.emboss.lifts := by
    rw [passNip_lifts]
    exact liftsWork_sublist List.filter_sublist
  have hk := recordsFrom_knife hw
  unfold webWork
  rw [passNip_nipCursor]
  omega

/-- An operation that leaves the map, the stations and the lifts leaves the web's work. -/
theorem webWork_same {s t : State} (hm : t.map = s.map) (hr : t.register = s.register) (hl : t.emboss.lifts = s.emboss.lifts) :
    webWork t = webWork s := by
  simp only [webWork, stationsWork, cursorWork, endWork, stationEnd, recordsFrom, ringSerials, hm, hr, hl]

theorem arriveAtNip_webWork (rec : Repeat) (s : State) : webWork (arriveAtNip rec s) = webWork s :=
  webWork_same (by simp) (by simp) (by simp)

theorem settleNip_work (n : Nat) (s : State) : webWork (settleNip n s) ≤ webWork s := by
  induction n generalizing s with
  | zero => exact (webWork_same rfl rfl rfl).le
  | succ n ih =>
    unfold settleNip
    split
    · exact (webWork_same rfl rfl rfl).le
    · next rec hrec =>
      have hrec' : findRepeat (arriveAtNip rec s).map.nipCursor (arriveAtNip rec s) = some rec := by
        simpa [findRepeat] using hrec
      simp only
      split
      · exact (ih _).trans ((passNip_work hrec').le.trans (arriveAtNip_webWork rec s).le)
      · exact (webWork_same (by simp) (by simp) (by simp)).le

theorem restNip_work (s : State) : webWork (restNip s) ≤ webWork s := settleNip_work _ s

/-- A nip crossing lowers the work of the web with its own registration (R90). -/
theorem nipCrossing_work {s : State} (h : s.emboss.nipReg.isSome = true) :
    webWork (nipCrossing s) + oneIf (nipCrossing s).emboss.nipReg.isSome < webWork s + oneIf s.emboss.nipReg.isSome := by
  rw [h]
  unfold nipCrossing
  split
  · exact Nat.lt_succ_of_le (webWork_same rfl rfl rfl).le
  · next rec hrec =>
    have h1 := passNip_work hrec
    have h2 := restNip_work (passNip rec s)
    have h3 := oneIf_le (restNip (passNip rec s)).emboss.nipReg.isSome
    simp only [oneIf_true]
    omega

/-! ### The splice lifts -/

/-- The start of a PENDING lift lowers the lifts' work (R89). -/
theorem liftStart_work {n : Nat} {s : State} (h : ∃ l ∈ s.emboss.lifts, l.state = .pending ∧ l.serial = n) :
    liftsWork (liftStart n s).emboss.lifts < liftsWork s.emboss.lifts := by
  obtain ⟨l, hl, hp, hn⟩ := h
  simp only [liftStart, retestCauses_lifts, State.withEmboss_emboss, liftsWork, List.map_map]
  refine List.sum_lt_sum _ _ (fun x _ => ?_) ⟨l, hl, ?_⟩
  · simp only [Function.comp]
    split
    · have : 1 ≤ liftWork x := by unfold liftWork; split <;> omega
      exact this
    · exact Nat.le_refl _
  · simp [hn, liftWork, hp]

/-- The end of an IN_FORCE lift lowers the lifts' work (R89). -/
theorem liftEnd_work {n : Nat} {s : State} (h : ∃ l ∈ s.emboss.lifts, l.state = .inForce ∧ l.serial = n) :
    liftsWork (liftEnd n s).emboss.lifts < liftsWork s.emboss.lifts := by
  obtain ⟨l, hl, hp, hn⟩ := h
  rw [liftEnd, removeLifts_lifts]
  obtain ⟨a, b, hab⟩ := List.append_of_mem hl
  have hle (m : List SpliceLift) : liftsWork (m.filter fun l => !(l.state == .inForce && l.serial == n)) ≤ liftsWork m :=
    liftsWork_sublist List.filter_sublist
  have happ (x y : List SpliceLift) : liftsWork (x ++ y) = liftsWork x + liftsWork y := by simp [liftsWork]
  have hcons : liftsWork (l :: b) = 1 + liftsWork b := by simp [liftsWork, liftWork, hp]
  rw [hab, List.filter_append, List.filter_cons_of_neg (by simp [hp, hn]), happ, happ, hcons]
  have := hle a
  have := hle b
  omega

/-! ### The knife -/

theorem endWork_off {s : State} {st : Station} (h : s.register.get st = StationRecord.off) : endWork s st = 0 := by
  simp [endWork, stationEnd, h, StationRecord.off]

theorem stationsWork_knife {s t : State} (h : KnifeActs s t) : stationsWork t ≤ stationsWork s := by
  refine stations_sum_le (f := fun st => cursorWork t st + endWork t st) (g := fun st => cursorWork s st + endWork s st) 0 fun st => ?_
  have h1 := cursorWork_onward (WebOnward.of_knife h).ring (CursorsOnward.of_knife h st)
  rcases h.stations st with e | e
  · rw [endWork_of_register e]; omega
  · rw [endWork_off e]; omega

/-- The knife's action on the record at its cursor lowers the web's work (R97). -/
theorem actAtKnife_work (kind : KnifeKind) {k : Repeat} {s : State} (h : findRepeat s.map.knifeCursor s = some k) :
    webWork (actAtKnife kind k s) < webWork s := by
  have hk : k.serial = s.map.knifeCursor := (findRepeat_eq_some h).1
  have ha := KnifeActs.actAtKnife kind hk
  have hw := WebOnward.of_knife ha
  have h1 := stationsWork_knife ha
  have h2 := recordsFrom_nip hw
  have h3 : recordsFrom (s.map.knifeCursor + 1) (actAtKnife kind k s) < recordsFrom s.map.knifeCursor s :=
    (recordsFrom_mono hw.ring (Nat.le_refl _)).trans_lt (recordsFrom_succ_lt h)
  unfold webWork
  rw [actAtKnife_knifeCursor, hk, actAtKnife_emboss]
  omega

theorem settleKnife_work (n : Nat) (s : State) : webWork (settleKnife n s) ≤ webWork s := by
  induction n generalizing s with
  | zero => exact (webWork_same rfl rfl rfl).le
  | succ n ih =>
    unfold settleKnife
    split
    · next hk =>
      split
      · exact (ih _).trans (actAtKnife_work _ hk).le
      · exact (webWork_same rfl rfl rfl).le
    · exact (webWork_same rfl rfl rfl).le

theorem restKnife_work (s : State) : webWork (restKnife s) ≤ webWork s := settleKnife_work _ s

/-- A knife crossing lowers the work of the web with its own registration (R97). -/
theorem knifeCrossing_work {s : State} (h : s.rolls.knifeReg.isSome = true) :
    webWork (knifeCrossing s) + oneIf (knifeCrossing s).rolls.knifeReg.isSome < webWork s + oneIf s.rolls.knifeReg.isSome := by
  rw [h]
  unfold knifeCrossing
  split
  · next reg k _ hk =>
    have h1 := actAtKnife_work reg.kind hk
    have h2 := restKnife_work (actAtKnife reg.kind k s)
    have h3 := oneIf_le (restKnife (actAtKnife reg.kind k s)).rolls.knifeReg.isSome
    simp only [oneIf_true]
    omega
  · exact Nat.lt_succ_of_le (webWork_same rfl rfl rfl).le

theorem knifeAtCreation_work (rec : Repeat) (s : State) : webWork (knifeAtCreation rec s) ≤ webWork s := by
  unfold knifeAtCreation
  split
  · refine (restKnife_work _).trans ?_
    split
    · exact (webWork_same (by simp) (by simp) (by simp)).le
    · exact Nat.le_refl _
  · split
    · exact restKnife_work s
    · exact Nat.le_refl _

end Sys2Proof.Machine

/-! O55 at a creation: a creation adds a bounded number of crossings, and a reference window end travels over more counts than that. -/

namespace Sys2Proof.Machine

open Sys2Proof

/-! ### The splice lifts of a flagged repeat (R88) -/

theorem liftWork_le (l : SpliceLift) : liftWork l ≤ 2 := by
  unfold liftWork
  split <;> omega

theorem liftsWork_append (l m : List SpliceLift) : liftsWork (l ++ m) = liftsWork l + liftsWork m := by simp [liftsWork]

theorem liftsWork_perm {l m : List SpliceLift} (h : l.Perm m) : liftsWork l = liftsWork m := (h.map liftWork).sum_eq

/-- A lift that is entered or merged has a start and an end before it at the most (R88). -/
theorem enterLift_work (highWater : Nat) (l : SpliceLift) (lifts : List SpliceLift) :
    liftsWork (enterLift highWater l lifts) ≤ liftsWork lifts + 2 := by
  unfold enterLift
  split
  · have h := liftWork_le (registerStart highWater l)
    rw [liftsWork_perm (insertBy_perm _ _ _)]
    simp only [liftsWork, List.map_cons, List.sum_cons]
    omega
  · have h1 : liftsWork lifts.dropLast ≤ liftsWork lifts := liftsWork_sublist (List.dropLast_sublist lifts)
    have h2 : liftsWork (lifts.getLast?.map fun old => mergeLift highWater old l).toList ≤ 2 := by
      cases lifts.getLast? with
      | none => exact Nat.zero_le _
      | some old => simpa [liftsWork] using liftWork_le (mergeLift highWater old l)
    rw [liftsWork_append]
    omega

theorem placeLift_work (rec : Repeat) (s : State) : liftsWork (placeLift rec s).emboss.lifts ≤ liftsWork s.emboss.lifts + 2 := by
  unfold placeLift
  split
  · simp only
    split
    · omega
    · rw [retestCauses_lifts]
      exact enterLift_work _ _ _
  · omega

/-! ### The newest record is completed (R11, R15, R16) -/

theorem WebOnward.of_same {s t : State} (hr : ringSerials t = ringSerials s) (hn : t.map.nipCursor = s.map.nipCursor)
    (hk : t.map.knifeCursor = s.map.knifeCursor) : WebOnward s t := ⟨by rw [hr], hn.ge, hk.ge⟩

/-- From `s` to `t` the web map and the cursors have moved on, and one splice lift at the most has been entered. -/
structure FlagsOne (s t : State) : Prop where
  web : WebOnward s t
  cursors : CursorsOnward s t
  lifts : liftsWork t.emboss.lifts ≤ liftsWork s.emboss.lifts + 2

theorem FlagsOne.of_same {s t : State} (hw : WebOnward s t) (hr : t.register = s.register) (he : t.emboss = s.emboss) : FlagsOne s t :=
  ⟨hw, .of_register hr, by rw [he]; omega⟩

theorem FlagsOne.refl (s : State) : FlagsOne s s := .of_same (.refl s) rfl rfl

theorem FlagsOne.of_prefix {s t u : State} (hw : WebOnward s t) (hr : t.register = s.register) (he : t.emboss = s.emboss)
    (h : FlagsOne t u) : FlagsOne s u :=
  ⟨hw.trans h.web, (CursorsOnward.of_register hr).trans h.cursors, by rw [← he]; exact h.lifts⟩

theorem FlagsOne.flagSplice (n : Repeat) (s : State) : FlagsOne s (flagSplice n s) := by
  unfold Machine.flagSplice
  split
  · exact .refl s
  · next j _ =>
    refine .of_prefix (t := s.withMap { s.map with
      ring := s.map.ring.map (flagRecord n.serial j.excludeBefore j.excludeAfter)
      extent := extentAfter n.serial j.excludeAfter s.map.extent ((newestSerial s).getD 0) })
      (.of_same (by simp [ringSerials, flagRecord]) rfl rfl) rfl rfl ?_
    refine .of_prefix (.of_map (raiseNotice_map .spliceSeen _)) (raiseNotice_register _ _) (raiseNotice_emboss _ _) ?_
    have hplace (u : State) : FlagsOne u (placeLift n u) := ⟨.of_map (by simp), .of_register (by simp), placeLift_work n u⟩
    have hcheck (u : State) : WebOnward u (Machine.recheckStations u) := .of_printedMap (Nat.le_refl _) (recheckStations_printedMap u)
    refine ⟨(hplace _).web.trans (hcheck _), (hplace _).cursors.trans (.recheckStations _), ?_⟩
    rw [recheckStations_emboss]
    exact (hplace _).lifts

theorem FlagsOne.resolveSplices (s : State) : FlagsOne s (resolveSplices s) := by
  unfold Machine.resolveSplices
  split
  · exact .refl s
  · split
    · next r _ _ =>
      exact .of_prefix (t := s.withPos { s.pos with splices := s.pos.splices.filter fun p => !inSpan p r }) (.of_map rfl) rfl rfl
        (.flagSplice r _)
    · exact .refl s

/-- A change of one record that keeps its serial leaves the serials. -/
theorem ringSerials_updateRepeat {f : Repeat → Repeat} (hf : ∀ r, (f r).serial = r.serial) (n : Nat) (s : State) :
    ringSerials (updateRepeat n f s) = ringSerials s := updateRepeat_ring_map (g := (·.serial)) hf n s

theorem FlagsOne.updateRepeat {f : Repeat → Repeat} (hf : ∀ r, (f r).serial = r.serial) (n : Nat) (s : State) :
    FlagsOne s (updateRepeat n f s) :=
  .of_same (.of_same (ringSerials_updateRepeat hf n s) rfl rfl) (by simp) (by simp)

theorem FlagsOne.completeNewest (f : Repeat → Nat) (s : State) : FlagsOne s (completeNewest f s) := by
  unfold Machine.completeNewest
  split
  · exact .refl s
  · next r _ =>
    exact .of_prefix (.of_same (ringSerials_updateRepeat (by intro _; rfl) _ s) rfl rfl) (by simp) (by simp)
      (.resolveSplices _)

/-! ### The web's work at a creation -/

/-- The web's work rests on the serials, the cursors and the lifts. -/
theorem webWork_congr {s t : State} (hs : ringSerials t = ringSerials s) (hn : t.map.nipCursor = s.map.nipCursor)
    (hk : t.map.knifeCursor = s.map.knifeCursor) (hr : t.register = s.register) (hl : t.emboss.lifts = s.emboss.lifts) :
    webWork t = webWork s := by
  simp only [webWork, stationsWork, cursorWork, endWork, stationEnd, recordsFrom, hs, hn, hk, hr, hl]

theorem webWork_flagsOne {s t : State} (h : FlagsOne s t) : webWork t ≤ webWork s + 9 := by
  have h1 := stationsWork_onward h.web.ring h.cursors
  have h2 := recordsFrom_nip h.web
  have h3 := recordsFrom_knife h.web
  have h4 := h.lifts
  unfold webWork
  omega

theorem recordsFrom_appendRepeat (n : Nat) (rec : Repeat) (s : State) : recordsFrom n (appendRepeat rec s) ≤ recordsFrom n s + 1 := by
  simp only [recordsFrom, ringSerials, appendRepeat, State.withMap_map, List.map_append, List.countP_append, List.map_cons, List.map_nil]
  have := List.countP_le_length (p := fun x => decide (n ≤ x)) (l := [rec.serial])
  simp only [List.length_singleton] at this
  omega

theorem webWork_appendRepeat (rec : Repeat) (s : State) : webWork (appendRepeat rec s) ≤ webWork s + 10 := by
  have h1 : stationsWork (appendRepeat rec s) ≤ stationsWork s + 7 * 1 := stations_sum_le 1 fun st => by
    have hend : endWork (appendRepeat rec s) st = endWork s st := endWork_of_register (by rw [appendRepeat_register])
    have hcur : cursorWork (appendRepeat rec s) st ≤ cursorWork s st + 1 := by
      unfold cursorWork
      rw [appendRepeat_register]
      cases (s.register.get st).cursor with
      | none => exact Nat.zero_le _
      | some c => exact recordsFrom_appendRepeat c rec s
    omega
  have h2 := recordsFrom_appendRepeat s.map.nipCursor rec s
  have h3 := recordsFrom_appendRepeat s.map.knifeCursor rec s
  have h4 : (appendRepeat rec s).map.nipCursor = s.map.nipCursor := rfl
  have h5 : (appendRepeat rec s).map.knifeCursor = s.map.knifeCursor := rfl
  unfold webWork
  rw [h4, h5, appendRepeat_emboss]
  omega

theorem WebOnward.stationsAtCreation (rec : Repeat) (s : State) : WebOnward s (stationsAtCreation rec s) :=
  .of_printedMap (Nat.le_refl _) (stationsAtCreation_printedMap rec s)

/-- At a change point each station may start over; elsewhere each may register one window end (R60). -/
theorem webWork_stationsAtCreation (rec : Repeat) (s : State) :
    webWork (stationsAtCreation rec s) ≤ webWork s + (if rec.changePoint then 7 * (s.map.ring.length + 1) else 7) := by
  have hw := WebOnward.stationsAtCreation rec s
  have h2 := recordsFrom_nip hw
  have h3 := recordsFrom_knife hw
  have h1 : stationsWork (stationsAtCreation rec s) ≤ stationsWork s + (if rec.changePoint then 7 * (s.map.ring.length + 1) else 7) := by
    cases hcp : rec.changePoint with
    | true =>
      have hlen : (stationsAtCreation rec s).map.ring.length ≤ s.map.ring.length := by simpa [ringSerials] using hw.ring.length_le
      have := stationsWork_le (stationsAtCreation rec s)
      rw [if_pos rfl]
      omega
    | false => exact stationsWork_onward hw.ring (.stationsAtCreation hcp s)
  unfold webWork
  rw [stationsAtCreation_emboss]
  omega

theorem webWork_cursorsAtCreation (rec : Repeat) (s : State) :
    webWork (cursorsAtCreation rec s) ≤ webWork s + (if rec.changePoint then 7 * (s.map.ring.length + 1) else 7) := by
  refine le_trans ?_ (webWork_stationsAtCreation rec s)
  simp only [cursorsAtCreation]
  refine (knifeAtCreation_work rec _).trans ?_
  split
  · exact restNip_work _
  · exact Nat.le_refl _

theorem webWork_designate (n : Nat) (s : State) : webWork (designate n s) = webWork s := by
  have hupdate (b : Bool) (u : State) : webWork (updateRepeat n (fun r => { r with designated := b }) u) = webWork u :=
    webWork_congr (ringSerials_updateRepeat (by intro _; rfl) n u) rfl rfl (by simp) (by simp)
  simp only [designate]
  split
  · rfl
  · rw [hupdate]
    split <;> rfl

theorem nameJob_staged {s : State} (n : Nat) (t : State) (h : t.jobs = s.jobs) : armedJob (nameJob (armedJob s) n t) = none := by
  cases harm : armedJob s with
  | none => exact (armedJob_congr h).trans harm
  | some j => rfl

/-- A creation leaves no job armed (R47). -/
theorem armedJob_createRepeat (j : JobRecord) (start : Nat) (o : Origin) (res : StationResult) (s : State) :
    armedJob (createRepeat j start o res s) = none := by
  rw [createRepeat_eq, armedJob_congr (designate_jobs _ _)]
  have hcursors (rec : Repeat) (u : State) : (cursorsAtCreation rec u).jobs.staged = u.jobs.staged := by
    have hnip (v : State) : (if v.map.nipCursor = rec.serial then restNip v else v).jobs = v.jobs := by split <;> simp
    simp only [cursorsAtCreation]
    rcases (KnifeActs.knifeAtCreation rec (if (stationsAtCreation rec u).map.nipCursor = rec.serial then restNip (stationsAtCreation rec u)
      else stationsAtCreation rec u)).jobs with e | e <;> rw [e] <;> simp [hnip]
  rw [armedJob_of_staged (hcursors _ _), joinedAt, armedJob_congr (appendRepeat_jobs _ _), namedAt]
  exact nameJob_staged _ _ (takeSerial_jobs _)

/-- A creation adds a bounded number of crossings to those that were before the web, an armed job's change point included. -/
theorem createRepeat_work (j : JobRecord) (start : Nat) (o : Origin) (res : StationResult) (s : State) :
    webWork (createRepeat j start o res s) + armedWork (createRepeat j start o res s) ≤ webWork s + armedWork s + 28 := by
  have hzero : armedWork (createRepeat j start o res s) = 0 := by simp [armedWork, armedJob_createRepeat]
  have h1 : webWork (completedAt start s) ≤ webWork s + 9 := webWork_flagsOne (.completeNewest _ s)
  have h2 : webWork (namedAt start s) = webWork (completedAt start s) :=
    webWork_same (by simp [namedAt]) (by simp [namedAt]) (by simp [namedAt])
  have h3 : webWork (joinedAt j start o res s) ≤ webWork (namedAt start s) + 10 := webWork_appendRepeat _ _
  have h4 := webWork_cursorsAtCreation (recordAt j start o res s) (joinedAt j start o res s)
  have hcp : (recordAt j start o res s).changePoint = (armedJob s).isSome := congrArg Option.isSome (armedJob_completedAt start s)
  have hlen : (joinedAt j start o res s).map.ring.length ≤ s.map.ring.length + 1 := by
    have hnamed : (namedAt start s).map = (completedAt start s).map := by simp [namedAt]
    have hring := (FlagsOne.completeNewest (fun r => start - r.start) s).web.ring.length_le
    rw [ringSerials, ringSerials, List.length_map, List.length_map] at hring
    have hjoin : (joinedAt j start o res s).map.ring.length = (namedAt start s).map.ring.length + 1 := by simp [joinedAt, appendRepeat]
    rw [hjoin, hnamed]
    exact Nat.succ_le_succ hring
  rw [hzero, createRepeat_eq, webWork_designate]
  rw [hcp] at h4
  unfold armedWork
  split at h4 <;> simp_all only [if_true, if_false, Bool.false_eq_true] <;> omega

end Sys2Proof.Machine

/-! O55, draining: each due crossing lowers the work, and so a drained state is settled (R2). -/

namespace Sys2Proof.Machine

open Sys2Proof

/-! ### Which positions are registered (R2) -/

theorem mem_dueCrossings {s : State} {d : Int × Crossing} : d ∈ dueCrossings s ↔ d ∈ registered s ∧ d.1 ≤ s.pos.highWater := by
  simp [dueCrossings]

/-- Every registered position belongs to what its crossing names. -/
theorem mem_registered {s : State} {d : Int × Crossing} (h : d ∈ registered s) :
    (∃ w, refWindow s = some w ∧ d = (((w.centre + w.halfWidth : Nat) : Int), .refWindowEnd))
      ∨ (∃ st, stationEnd s st = some d)
      ∨ (∃ p, s.emboss.nipReg = some p ∧ d = ((p : Int), .nip))
      ∨ (∃ l ∈ s.emboss.lifts, liftPosition s l = some d)
      ∨ (∃ k, s.rolls.knifeReg = some k ∧ d = ((k.position : Int), .knife)) := by
  simp only [registered, List.mem_append, Option.mem_toList, Option.map_eq_some_iff, List.mem_filterMap] at h
  rcases h with (((⟨w, hw, rfl⟩ | ⟨st, -, hst⟩) | ⟨z, hz, rfl⟩) | ⟨l, hl, hd⟩) | ⟨k, hk, rfl⟩
  · exact .inl ⟨w, hw, rfl⟩
  · exact .inr (.inl ⟨st, hst⟩)
  · obtain ⟨p, hp, hpz⟩ := Option.bind_eq_some_iff.mp hz
    obtain rfl := Option.some.inj hpz
    exact .inr (.inr (.inl ⟨p, hp, rfl⟩))
  · exact .inr (.inr (.inr (.inl ⟨l, hl, hd⟩)))
  · exact .inr (.inr (.inr (.inr ⟨k, hk, rfl⟩)))

theorem stationEnd_crossing {s : State} {st : Station} {d : Int × Crossing} (h : stationEnd s st = some d) : d.2 = .stationWindowEnd st := by
  simp only [stationEnd] at h
  split at h
  · exact absurd h (by simp)
  · obtain ⟨w, -, rfl⟩ := Option.map_eq_some_iff.mp h
    rfl

theorem liftPosition_crossing {s : State} {l : SpliceLift} {d : Int × Crossing} (h : liftPosition s l = some d) :
    (l.state = .pending ∧ d.2 = .liftStart l.serial) ∨ (l.state = .inForce ∧ d.2 = .liftEnd l.serial) := by
  unfold liftPosition at h
  cases hl : l.state with
  | pending =>
    rw [hl] at h
    exact .inl ⟨rfl, congrArg Prod.snd (Option.some.inj h).symm⟩
  | inForce =>
    rw [hl] at h
    simp only at h
    split at h
    · exact .inr ⟨rfl, congrArg Prod.snd (Option.some.inj h).symm⟩
    · exact absurd h (by simp)

/-! ### A crossing that is taken -/

theorem travelView_highWater {s t : State} (h : travelView t = travelView s) : t.pos.highWater = s.pos.highWater := by
  simp only [travelView, Prod.mk.injEq] at h
  exact h.2.1

/-- A window end that the high-water position has reached lowers the travel left by R, which is more than a creation adds (R9, R42). -/
theorem refWindowEnd_work_lt {s : State} (hs : JobsSound s) {w : Window} (hw : refWindow s = some w) (hle : w.centre ≤ s.pos.highWater) :
    work (refWindowEnd s) < work s := by
  obtain ⟨p, j, -, hp, hj, rfl⟩ := refWindow_eq_some hw
  obtain ⟨hR, -⟩ := hs.creating hj
  have hwork := refWindowEnd_reads (p := work) (fun _ _ => rfl) (fun _ _ => rfl) hw hj
  have hcreate := createRepeat_work j (p + j.length) .synth .missed s
  have htravel := travelView_highWater (StaysPlaced.createRepeat j (p + j.length) .synth .missed s).travel
  rw [hwork]
  simp only [synthState]
  generalize createRepeat j (p + j.length) .synth .missed s = t at *
  have hweb (r : RefRecord) : webWork (setRef r t) = webWork t := rfl
  have harm (r : RefRecord) : armedWork (setRef r t) = armedWork t := rfl
  have href : refWork s = s.pos.highWater - p := by simp [refWork, hp]
  have href' (r : RefRecord) (h : r.newestStart = some (p + j.length)) : refWork (setRef r t) = s.pos.highWater - (p + j.length) := by
    simp [refWork, setRef, h, htravel]
  have h1 := oneIf_le t.emboss.nipReg.isSome
  have h2 := oneIf_le t.rolls.knifeReg.isSome
  simp only at hle
  simp only [work, setRef, State.withPos_emboss, State.withPos_rolls]
  have hR' : 2000 ≤ j.length := hR
  have := href' { s.pos.ref with
    state := stateAfterSynth s.pos.ref.state (saturate 255 (s.pos.ref.synthRun + 1)) j.missLimit
    newestStart := some (p + j.length)
    synthRun := saturate 255 (s.pos.ref.synthRun + 1) } rfl
  simp only [setRef] at this hweb harm
  rw [this, href, hweb, harm]
  omega

/-- The work of a crossing that no reference window end is. -/
theorem work_lt_of_web {s t : State} (hp : t.pos.highWater = s.pos.highWater) (hn : t.pos.ref.newestStart = s.pos.ref.newestStart)
    (ha : armedWork t ≤ armedWork s)
    (h : webWork t + oneIf t.emboss.nipReg.isSome + oneIf t.rolls.knifeReg.isSome
      < webWork s + oneIf s.emboss.nipReg.isSome + oneIf s.rolls.knifeReg.isSome) : work t < work s := by
  have href : refWork t = refWork s := by rw [refWork, hp, hn, refWork]
  unfold work
  omega

theorem webWork_lifts {s t : State} (hm : t.map = s.map) (hr : t.register = s.register)
    (hl : liftsWork t.emboss.lifts < liftsWork s.emboss.lifts) : webWork t < webWork s := by
  have hst : stationsWork t = stationsWork s := by
    simp only [stationsWork, cursorWork, endWork, stationEnd, recordsFrom, ringSerials, hm, hr]
  have hrec (n : Nat) : recordsFrom n t = recordsFrom n s := by simp only [recordsFrom, ringSerials, hm]
  unfold webWork
  rw [hst, hrec, hrec, hm]
  omega

theorem stationWindowEnd_webWork {st : Station} {s : State} (h : (stationEnd s st).isSome = true) :
    webWork (stationWindowEnd st s) < webWork s := by
  have hst := stationWindowEnd_work h
  have hrec (n : Nat) : recordsFrom n (stationWindowEnd st s) = recordsFrom n s := by
    simp only [recordsFrom, ringSerials_stationWindowEnd]
  have hmap : printedMap (stationWindowEnd st s) = printedMap s := stationWindowEnd_printedMap st s
  have hn : (printedMap (stationWindowEnd st s)).nipCursor = (printedMap s).nipCursor := by rw [hmap]
  have hk : (printedMap (stationWindowEnd st s)).knifeCursor = (printedMap s).knifeCursor := by rw [hmap]
  simp only [printedMap] at hn hk
  unfold webWork
  rw [hrec, hrec, hn, hk, stationWindowEnd_emboss]
  omega

/-- Every due crossing lowers the work when it is taken. -/
theorem takeCrossing_work_lt {s : State} (hs : JobsSound s) {d : Int × Crossing} (hd : d ∈ dueCrossings s) :
    work (takeCrossing d.2 s) < work s := by
  obtain ⟨hreg, hle⟩ := mem_dueCrossings.mp hd
  rcases mem_registered hreg with ⟨w, hw, rfl⟩ | ⟨st, hst⟩ | ⟨p, hp, rfl⟩ | ⟨l, hl, hlp⟩ | ⟨k, hk, rfl⟩
  · refine refWindowEnd_work_lt hs hw ?_
    simp only [Nat.cast_le] at hle
    omega
  · rw [stationEnd_crossing hst]
    have h := stationWindowEnd_webWork (s := s) (st := st) (by rw [hst]; rfl)
    refine work_lt_of_web (by simp [takeCrossing]) (by simp [takeCrossing])
      (armedWork_onward (by simp [takeCrossing]) (by rw [takeCrossing, ringSerials_stationWindowEnd])) ?_
    simp only [takeCrossing, stationWindowEnd_emboss, stationWindowEnd_rolls]
    omega
  · have h := nipCrossing_work (s := s) (by rw [hp]; rfl)
    obtain ⟨c, hc, hmap⟩ := nipCrossing_printedMap s
    refine work_lt_of_web (by simp [takeCrossing]) (by simp [takeCrossing])
      (armedWork_onward (by simp [takeCrossing]) (WebOnward.of_printedMap hc hmap).ring) ?_
    simp only [takeCrossing, nipCrossing_rolls]
    omega
  · rcases liftPosition_crossing hlp with ⟨hst, hd2⟩ | ⟨hst, hd2⟩
    · rw [hd2]
      have h : webWork (liftStart l.serial s) < webWork s := webWork_lifts (by simp) (by simp) (liftStart_work ⟨l, hl, hst, rfl⟩)
      refine work_lt_of_web (by simp [takeCrossing]) (by simp [takeCrossing])
        (armedWork_onward (by simp [takeCrossing]) (by simp [takeCrossing, ringSerials])) ?_
      have hnip : (liftStart l.serial s).emboss.nipReg = s.emboss.nipReg := by simp [liftStart, retestCauses_emboss]
      simp only [takeCrossing, liftStart_rolls, hnip]
      omega
    · rw [hd2]
      have h : webWork (liftEnd l.serial s) < webWork s := webWork_lifts (by simp) (by simp) (liftEnd_work ⟨l, hl, hst, rfl⟩)
      refine work_lt_of_web (by simp [takeCrossing]) (by simp [takeCrossing])
        (armedWork_onward (by simp [takeCrossing]) (by simp [takeCrossing, ringSerials])) ?_
      have hnip : (liftEnd l.serial s).emboss.nipReg = s.emboss.nipReg := by
        simp only [liftEnd, removeLifts]
        split
        · simp [retestCauses_emboss]
        · rfl
      simp only [takeCrossing, liftEnd_rolls, hnip]
      omega
  · have h := knifeCrossing_work (s := s) (by rw [hk]; rfl)
    have ha := KnifeActs.knifeCrossing s
    have hpos : travelView (knifeCrossing s) = travelView s := (StaysPlaced.of_knife ha).travel
    have href := (StaysPlaced.of_knife ha).ref
    refine work_lt_of_web (travelView_highWater hpos) (by rw [takeCrossing, href])
      (armedWork_onward ?_ (WebOnward.of_knife ha).ring) ?_
    · rcases ha.jobs with e | e <;> rw [takeCrossing, e]
    · simp only [takeCrossing, knifeCrossing_emboss]
      omega

/-! ### The lowest due crossing -/

theorem mem_lowestDue {s : State} {c : Crossing} :
    c ∈ lowestDue s ↔ ∃ p, (p, c) ∈ dueCrossings s ∧ ∀ d ∈ dueCrossings s, p ≤ d.1 := by
  simp [lowestDue]

/-- Something due has something lowest. -/
theorem lowestDue_ne_nil {s : State} (h : dueCrossings s ≠ []) : lowestDue s ≠ [] := by
  obtain ⟨m, hm, hmin⟩ := Finset.exists_min_image (dueCrossings s).toFinset Prod.fst
    (List.toFinset_nonempty_iff _ |>.mpr h)
  simp only [List.mem_toFinset] at hm hmin
  exact List.ne_nil_of_mem (mem_lowestDue.mpr ⟨m.1, hm, hmin⟩)

/-- The pick is one of the crossings. -/
theorem pickCrossing_mem {draw : Nat} {cs : List Crossing} (h : cs ≠ []) : ∃ c ∈ cs, pickCrossing draw cs = some c := by
  match cs with
  | [c] => exact ⟨c, List.mem_singleton_self c, rfl⟩
  | c :: d :: rest =>
    have hlt : Config.tieChoice draw % ((d :: rest).length + 1) < (c :: d :: rest).length := Nat.mod_lt _ (Nat.succ_pos _)
    refine ⟨(c :: d :: rest)[Config.tieChoice draw % ((d :: rest).length + 1)], List.getElem_mem hlt, ?_⟩
    simp only [pickCrossing, List.getElem?_eq_getElem hlt, Option.getD_some]

/-! ### Draining settles (R2) -/

theorem work_of_drawTie (cs : List Crossing) (s : State) : work (drawTie cs s) = work s := by
  unfold drawTie
  split <;> rfl

theorem dueCrossings_drawTie (cs : List Crossing) (s : State) : dueCrossings (drawTie cs s) = dueCrossings s := by
  unfold drawTie
  split <;> rfl

theorem JobsSound.drawTie {s : State} (hs : JobsSound s) (cs : List Crossing) : JobsSound (drawTie cs s) :=
  jobsSound_of_jobs (by unfold Machine.drawTie; split <;> rfl) hs

theorem asEvent_work (f : State → State) (s : State) : work (asEvent f s) = work (f (withEventClosed s)) :=
  asEvent_reads (p := work) (fun _ _ => rfl) (fun _ _ => rfl) f s

/-- A due crossing lowers the work as an event of its own. -/
theorem asEvent_crossing_work_lt {s : State} (hs : JobsSound s) {p : Int} {c : Crossing} (hp : (p, c) ∈ dueCrossings s) :
    work (asEvent (takeCrossing c) s) < work s := by
  have hjobs : (withEventClosed s).jobs = s.jobs := rfl
  have hdue : dueCrossings (withEventClosed s) = dueCrossings s := rfl
  have hwork : work (withEventClosed s) = work s := rfl
  rw [← hdue] at hp
  rw [asEvent_work, ← hwork]
  have hlt := takeCrossing_work_lt (jobsSound_of_jobs hjobs hs) hp
  dsimp only at hlt
  exact hlt

theorem Keeps.jobsSound {s t : State} (h : Keeps s t) (hs : JobsSound s) : JobsSound t := h.jobs hs

/-- Enough fuel for the work takes everything that is due. -/
theorem drainFuel_settles (n : Nat) (s : State) (hs : JobsSound s) (hn : work s ≤ n) : Settled (drainFuel n s) := by
  induction n generalizing s with
  | zero =>
    by_contra hdue
    obtain ⟨d, hd⟩ := List.exists_mem_of_ne_nil _ hdue
    exact absurd (takeCrossing_work_lt hs hd) (by omega)
  | succ n ih =>
    unfold drainFuel
    by_cases hdue : dueCrossings s = []
    · have hlow : lowestDue s = [] := by simp [lowestDue, hdue]
      rw [hlow]
      exact hdue
    · obtain ⟨c, hc, hpick⟩ := pickCrossing_mem (draw := s.model.draws) (lowestDue_ne_nil hdue)
      obtain ⟨p, hp, -⟩ := mem_lowestDue.mp hc
      rw [hpick]
      have hdrawn := hs.drawTie (lowestDue s)
      have hwork := work_of_drawTie (lowestDue s) s
      rw [← dueCrossings_drawTie (lowestDue s) s] at hp
      simp only
      generalize drawTie (lowestDue s) s = t at hdrawn hwork hp ⊢
      refine ih _ ((Keeps.asEvent (.takeCrossing c) t).jobsSound hdrawn) ?_
      have hlt := asEvent_crossing_work_lt hdrawn hp
      omega

theorem drain_settles {s : State} (hs : JobsSound s) : Settled (drain s) := drainFuel_settles _ s hs (work_le_drainBound s)

/-- Taking what is due settles the state, unless an input edge waits that may be taken first (notes/assumptions/22.md). -/
theorem takeDue_settles {s : State} (hs : JobsSound s) : Settled (takeDue s) ∨ inputWaits (takeDue s) = true := by
  cases hin : inputWaits s with
  | false => exact .inl (takeDue_of_noInput hin ▸ drain_settles hs)
  | true =>
    refine .inr ?_
    have hpending : (takeDue s).pending = s.pending := by simp
    unfold inputWaits at hin ⊢
    rwa [hpending]

end Sys2Proof.Machine

/-! O55: every step that begins settled, or with an input edge in front, ends so. -/

namespace Sys2Proof.Machine

open Sys2Proof

/-! ### What a request leaves registered (R2) -/

/-- The registered positions rest on the reference's window, the stations' windows, the nip crossing, the lifts with the ends that
are crossings of their own, and the knife registration (R2). -/
theorem registered_of_windows {s t : State} (hw : refWindow t = refWindow s) (hend : stationEnd t = stationEnd s)
    (hnip : t.emboss.nipReg = s.emboss.nipReg) (hl : t.emboss.lifts = s.emboss.lifts) (he : endsAlone t = endsAlone s)
    (hk : t.rolls.knifeReg = s.rolls.knifeReg) : registered t = registered s := by
  have hp : liftPosition t = liftPosition s := by funext l; simp only [liftPosition, he]
  simp only [registered, hw, hend, hp, hnip, hl, hk]

/-- The expected window rests on the reference and on the creating job's R and W (R4). -/
theorem refWindow_of_key {s t : State} (hp : t.pos.ref = s.pos.ref)
    (hc : (creatingJob t).map JobRecord.key = (creatingJob s).map JobRecord.key) : refWindow t = refWindow s := by
  unfold refWindow
  rw [hp]
  split
  · cases hs : creatingJob s <;> cases ht : creatingJob t <;> rw [hs, ht] at hc
    · exact absurd hc (by simp)
    · exact absurd hc (by simp)
    · simp only [Option.map_some, Option.some.injEq, JobRecord.key, Prod.mk.injEq] at hc
      obtain ⟨-, hlen, hhalf⟩ := hc
      cases s.pos.ref.newestStart with
      | none => rfl
      | some p => simp only [hlen, hhalf]
  · rfl

theorem creatingJob_of_unarmed {s : State} (h : armedJob s = none) : creatingJob s = s.jobs.head.map (·.record) := by
  rw [creatingJob, h]

/-- Without a tail job no splice lift ends alone (R89). -/
theorem endsAlone_of_noTail {s : State} (h : s.jobs.tail = none) : endsAlone s = fun _ => false := by
  funext l
  simp [endsAlone, h]

theorem registered_setGeometry (g : Geometry) {s : State} (h : pathInUse s = false) :
    registered (s.withJobs { s.jobs with geometry := g }) = registered s := by
  simp only [pathInUse, Bool.or_eq_false_iff, Option.isSome_eq_false_iff, Option.isNone_iff_eq_none] at h
  obtain ⟨⟨-, htail⟩, -⟩ := h
  refine registered_of_windows rfl rfl rfl rfl ?_ rfl
  rw [endsAlone_of_noTail htail, endsAlone_of_noTail (by simpa using htail)]

theorem registered_stageJob (j : JobRecord) {s : State} (h : armedJob s = none) : registered (stageJob j s) = registered s := by
  have hunarmed : armedJob (stageJob j s) = none := rfl
  refine registered_of_windows (refWindow_of_key rfl ?_) rfl rfl rfl rfl rfl
  rw [creatingJob_of_unarmed h, creatingJob_of_unarmed hunarmed]
  rfl

theorem SlotsAlike.creatingKey {s t : State} (h : SlotsAlike s.jobs t.jobs) :
    (creatingJob t).map JobRecord.key = (creatingJob s).map JobRecord.key := by
  have harm := armedJob_of_staged h.staged
  cases hs : armedJob s with
  | some j => rw [creatingJob, creatingJob, harm, hs]
  | none =>
    rw [creatingJob_of_unarmed hs, creatingJob_of_unarmed (harm.trans hs), Option.map_map, Option.map_map]
    exact h.head

theorem SlotsAlike.endsAlone {s t : State} (h : SlotsAlike s.jobs t.jobs) : endsAlone t = endsAlone s := by
  have hfinal : t.jobs.tail.bind (·.finalBoundary) = s.jobs.tail.bind (·.finalBoundary) := by
    have hmap := congrArg (Option.bind · Prod.snd) h.tail
    simpa [Option.bind_map, Function.comp_def] using hmap
  funext l
  simp only [Machine.endsAlone, hfinal, h.geometry]

/-- Teaching leaves the window ends that the stations have registered (R79). -/
theorem teachAll_stationEnd (s : State) : stationEnd (teachAll s) = stationEnd s := by
  refine foldl_keeps stationEnd teachStation (fun u st => ?_) allStations s
  unfold teachStation
  split
  · funext x
    by_cases hx : x = st
    · subst hx
      simp [stationEnd, setStation]
    · simp [stationEnd, setStation, PerStation.get_set_other _ _ _ _ hx]
  · rfl

theorem registered_teachAll (s : State) : registered (teachAll s) = registered s := by
  have href : (teachAll s).pos.ref = s.pos.ref := by simp
  have hemb : (teachAll s).emboss = s.emboss := by simp
  have hrolls : (teachAll s).rolls = s.rolls := by simp
  exact registered_of_windows (refWindow_of_key href (teachAll_jobs s).creatingKey) (teachAll_stationEnd s) (by rw [hemb]) (by rw [hemb])
    (teachAll_jobs s).endsAlone (by rw [hrolls])

theorem registered_lineReset (s : State) : registered (lineReset s) = [] := by
  have hpos : (lineReset s).pos.ref = RefRecord.reset := by rw [lineReset_pos]
  have hwin : refWindow (lineReset s) = none := by simp [refWindow, hpos, RefRecord.reset, hasWindow]
  rw [lineReset_eq] at hwin ⊢
  have hreg (u : State) : (unitsReset u).register = u.register := by
    simp only [unitsReset]
    split <;> simp
  have hst (u : State) (st : Station) : stationEnd (unitsReset (pathDiscarded u)) st = none := by
    simp only [stationEnd, hreg]
    cases st <;> rfl
  have hemb (u : State) : (unitsReset u).emboss = EmbossUnit.reset := by
    simp only [unitsReset]
    split <;> simp
  have hknife (u : State) : (unitsReset u).rolls.knifeReg = none := by
    simp only [unitsReset]
    split <;> simp [lanesIdle]
  have hstations (u : State) : allStations.filterMap (stationEnd (unitsReset (pathDiscarded u))) = [] :=
    List.filterMap_eq_nil_iff.mpr fun st _ => hst u st
  simp only [registered, hwin, hstations, hemb, hknife]
  rfl

/-! ### The commands of the link -/

/-- The job slots are in order and nothing is due. -/
def SoundlySettled (s : State) : Prop := JobsSound s ∧ Settled s

theorem settled_of_noneRegistered {s : State} (h : registered s = []) : Settled s := by simp [Settled, dueCrossings, h]

/-- What a request that no crossing can follow leaves is settled. -/
theorem settled_serve (m : Master) {r : Request} (h1 : r ≠ .armJob) (h2 : r ≠ .endJob) {s : State} (hs : Settled s) :
    Settled (serve m r s).1 := by
  cases hr : movesJobs r with
  | false =>
    have hv := serve_crossingView m hr s
    simp only [crossingView, Prod.mk.injEq] at hv
    obtain ⟨hp, hj, hst, hl, hn, hk⟩ := hv
    exact hs.of_registered (registered_congr (by rw [hp]) (by rw [hp]) hj hst hn hl hk) (by rw [hp])
  | true =>
    cases r
    case armJob => exact absurd rfl h1
    case endJob => exact absurd rfl h2
    case setGeometry =>
      simp only [serve, serveSetGeometry]
      split
      · exact hs
      · next hu =>
        split
        · exact hs.of_registered (registered_setGeometry _ (by simpa using hu)) rfl
        · exact hs
    case loadJob =>
      simp only [serve, serveLoadJob]
      split
      · exact hs
      · split
        · exact hs
        · next hu =>
          split
          · exact hs
          · exact hs.of_registered (registered_stageJob _ (by simpa using hu)) rfl
    case lineReset => exact settled_of_noneRegistered (registered_lineReset s)
    case teachOffsets => exact hs.of_registered (registered_teachAll s) (by simp [serve, serveTeachOffsets])
    all_goals exact Bool.noConfusion (hr : false = true)

theorem settled_asEvent {f : State → State} {s : State} (h : Settled (f (withEventClosed s))) : Settled (asEvent f s) := by
  have heq := asEvent_reads (p := Settled) (fun _ _ => rfl) (fun _ _ => rfl) f s
  rwa [heq]

/-- The positions and the job slots stay, and so does what is registered. -/
theorem SoundlySettled.of_view {s t : State} (h : crossingView t = crossingView s) (hs : SoundlySettled s) : SoundlySettled t := by
  simp only [crossingView, Prod.mk.injEq] at h
  obtain ⟨hp, hj, hst, hl, hn, hk⟩ := h
  exact ⟨jobsSound_of_jobs hj hs.1, hs.2.of_registered (registered_congr (by rw [hp]) (by rw [hp]) hj hst hn hl hk) (by rw [hp])⟩

theorem SoundlySettled.asEvent {f : State → State} (hf : ∀ u, crossingView (f u) = crossingView u) {s : State} (hs : SoundlySettled s) :
    SoundlySettled (asEvent f s) := by
  have heq := asEvent_reads (p := crossingView) (fun _ _ => rfl) (fun _ _ => rfl) f s
  exact hs.of_view (heq.trans (hf _))

theorem soundlySettled_linkLaw : LinkLaw SoundlySettled where
  link _ _ hs := hs.of_view rfl
  request s m r v hs := by
    have hj : JobsSound ((asEvent (fun x => (serve m r x).1) s).withLink v) :=
      jobsSound_of_jobs rfl ((Keeps.asEvent (.serve m r) s).jobsSound hs.1)
    by_cases h1 : r = .armJob
    · subst h1; exact ⟨(Keeps.drain _).jobsSound hj, drain_settles hj⟩
    · by_cases h2 : r = .endJob
      · subst h2; exact ⟨(Keeps.drain _).jobsSound hj, drain_settles hj⟩
      · have hafter (u : State) : afterRequest r u = u := by
          cases r
          case armJob => exact absurd rfl h1
          case endJob => exact absurd rfl h2
          all_goals rfl
        rw [hafter]
        have hset : Settled (Machine.asEvent (fun x => (serve m r x).1) s) := settled_asEvent (settled_serve m h1 h2 hs.2)
        exact ⟨hj, hset.of_registered rfl rfl⟩
  claim _ _ _ _ hs := hs.asEvent fun _ => by simp [crossingView]
  release _ _ hs := hs.asEvent fun _ => by simp [crossingView]

/-! ### O55 -/

/-- Whether a command is an input edge that the line position timestamps. -/
def isInputEdge : Instr → Bool
  | .referenceMark | .spliceEdge | .stationMark _ => true
  | _ => false

theorem inputWaits_cons {c : Instr} {rest : List Instr} {s : State} (hp : s.pending = c :: rest) : inputWaits s = isInputEdge c := by
  unfold inputWaits
  rw [hp]
  cases c <;> rfl

/-- An input that ends by taking what is due ends settled, or with an input edge waiting; under device reset nothing is registered. -/
theorem takeDue_input {f : State → State} (hf : ∀ u, Keeps u (f u)) {s t : State} (hj : JobsSound s)
    (hreset : s.pins.resetLow = true → Settled s) (hn : Host.Outcome.next (unlessReset (fun x => takeDue (f x)) s) = (.next t : StepOutcome)) :
    Settled t ∨ inputWaits t = true := by
  obtain rfl := Host.Outcome.next.inj hn
  cases hr : s.pins.resetLow with
  | true => rw [unlessReset_of_low hr]; exact .inl (hreset hr)
  | false => rw [unlessReset_of_high hr]; exact takeDue_settles ((hf s).jobsSound hj)

/-- An edge that raises the high-water position takes what is due; any other edge reaches nothing (R2). -/
theorem takeEdge_settles (e : EncoderEdge) {s : State} (hj : JobsSound s) (hs : Settled s) :
    Settled (takeEdge e s) ∨ inputWaits (takeEdge e s) = true := by
  simp only [takeEdge]
  split
  · exact .inl hs
  · next forward _ =>
    have hreg : registered (countEdge forward s) = registered s := registered_congr rfl rfl rfl rfl rfl rfl rfl
    split
    · exact takeDue_settles ((Keeps.countEdge forward s).jobsSound hj)
    · next hraised =>
      have hw : (countEdge forward s).pos.highWater = s.pos.highWater := by
        have hmax : s.pos.highWater ≤ (countEdge forward s).pos.highWater := le_max_left _ _
        omega
      exact .inl (hs.of_registered hreg hw)

theorem takeInterval_settled {s : State} (hs : Settled s) : Settled (asEvent takeInterval s) := by
  refine settled_asEvent (hs.of_registered (registered_congr ?_ ?_ ?_ ?_ ?_ ?_ ?_) ?_)
  all_goals simp [takeInterval, withEventClosed]

/-- A command that is no input edge, taken while nothing is due. -/
theorem exec_settles {c : Instr} (hc : isInputEdge c = false) {s t : State} (hj : JobsSound s) (hs : Settled s) (ht : exec c s = .next t) :
    Settled t ∨ inputWaits t = true := by
  cases hl : ofLink c with
  | true => exact .inl (soundlySettled_linkLaw.exec hl ⟨hj, hs⟩ ht).2
  | false =>
    cases c
    case encoderEdge e =>
      obtain rfl := Host.Outcome.next.inj ht
      unfold unlessReset
      split
      · exact .inl hs
      · exact takeEdge_settles e hj hs
    case intervalTimer => exact .inl (next_keeps (P := Settled) (fun _ => takeInterval_settled) hs ht)
    case strobeEnd l => exact .inl (next_keeps (P := Settled) (f := fun x => x.withPins { x.pins with knives := x.pins.knives.set l false })
      (fun _ hu => hu.of_registered rfl rfl) hs ht)
    case deviceReset =>
      obtain rfl := Host.Outcome.next.inj ht
      split
      · exact .inl hs
      · exact .inl (settled_of_noneRegistered (registered_assertReset s))
    case deviceResetRelease a b d =>
      obtain rfl := Host.Outcome.next.inj ht
      split
      · exact .inl (hs.of_registered rfl rfl)
      · exact .inl hs
    case referenceMark | spliceEdge | stationMark => exact Bool.noConfusion (hc : true = false)
    all_goals exact Bool.noConfusion (hl : true = false)

/-- Settles O55: draining has enough fuel for the work (`drain_settles`), and every other command leaves what is registered. -/
theorem stepKeepsSettled : Obligations.StepKeepsSettled := by
  intro s t h hj hheld hs
  rcases step_cases h with ⟨-, rfl⟩ | ⟨c, rest, hp, he⟩
  · exact hs
  have hj' : JobsSound (s.withPending rest) := hj
  have hreset (hr : (s.withPending rest).pins.resetLow = true) : Settled (s.withPending rest) :=
    settled_of_noneRegistered ((congrArg registered (hheld hr)).trans (registered_assertReset s))
  cases hc : isInputEdge c with
  | false =>
    have hset : Settled s := hs.resolve_right (by rw [inputWaits_cons hp, hc]; exact Bool.false_ne_true)
    exact exec_settles hc hj' (hset.of_registered rfl rfl) he
  | true =>
    cases c
    case referenceMark =>
      exact takeDue_input (f := fun x => takeRefEnds (drainBound x) (asEvent takeReferenceMark x))
        (fun u => (Keeps.asEvent .takeReferenceMark u).trans (.takeRefEnds _ _)) hj' hreset he
    case spliceEdge => exact takeDue_input (.asEvent .takeSplice) hj' hreset he
    case stationMark st => exact takeDue_input (.asEvent (.takeStationMark st)) hj' hreset he
    all_goals exact Bool.noConfusion (hc : false = true)

end Sys2Proof.Machine

/-! O3: a counted edge and the crossings that it reaches. -/

namespace Sys2Proof.Machine

open Sys2Proof

/-! ### One edge (R1, R2) -/

theorem movePosition_eq (forward : Bool) (p : Nat) : movePosition forward p = if forward = true then min (p + 1) (2 ^ 48 - 1) else p - 1 := by
  unfold movePosition saturate Config.lineMax
  split <;> omega

/-- A counted edge leaves the positions where it moved them, whatever crossings it reaches. -/
theorem takeEdge_positions {e : EncoderEdge} {forward : Bool} {s : State} (h : edgeForward s.model.aLeadsForward e = some forward) :
    (takeEdge e s).pos.linePos = movePosition forward s.pos.linePos
      ∧ (takeEdge e s).pos.highWater = max s.pos.highWater (movePosition forward s.pos.linePos) := by
  have hview : travelView (takeEdge e s) = travelView (countEdge forward s) := by
    simp only [takeEdge, h]
    split
    · exact takeDue_travel _
    · rfl
  simp only [travelView, Prod.mk.injEq] at hview
  obtain ⟨hline, hhigh, -⟩ := hview
  exact ⟨hline, hhigh⟩

/-- An edge that does not raise the high-water position moves the line position alone. -/
theorem takeEdge_within {e : EncoderEdge} {forward : Bool} {s : State} (h : edgeForward s.model.aLeadsForward e = some forward)
    (hle : movePosition forward s.pos.linePos ≤ s.pos.highWater) : takeEdge e s = countEdge forward s := by
  have hhigh : (countEdge forward s).pos.highWater = s.pos.highWater := max_eq_left hle
  simp only [takeEdge, h, hhigh, lt_irrefl, if_false]

/-- An edge that raises the high-water position takes what is due. -/
theorem takeEdge_beyond {e : EncoderEdge} {forward : Bool} {s : State} (h : edgeForward s.model.aLeadsForward e = some forward)
    (hlt : s.pos.highWater < movePosition forward s.pos.linePos) : takeEdge e s = takeDue (countEdge forward s) := by
  have hhigh : s.pos.highWater < (countEdge forward s).pos.highWater := hlt.trans_le (le_max_right _ _)
  simp only [takeEdge, h, hhigh, if_true]

/-- A state with every registered position above the high-water position is settled (R2). -/
theorem settled_of_ahead {s : State} (h : ∀ c ∈ registered s, (s.pos.highWater : Int) < c.1) : Settled s :=
  List.filter_eq_nil_iff.mpr fun c hc => by simpa using h c hc

theorem movePosition_le_succ (forward : Bool) (p : Nat) : movePosition forward p ≤ p + 1 := by
  rw [movePosition_eq]
  split <;> omega

/-- An edge that reaches no registered position is its count alone. -/
theorem takeEdge_ahead {e : EncoderEdge} {forward : Bool} {s : State} (h : edgeForward s.model.aLeadsForward e = some forward)
    (hp : PositionSound s) (hahead : ∀ c ∈ registered s, (s.pos.highWater : Int) + 1 < c.1) : takeEdge e s = countEdge forward s := by
  obtain ⟨hline, -⟩ := hp
  by_cases hle : movePosition forward s.pos.linePos ≤ s.pos.highWater
  · exact takeEdge_within h hle
  · rw [takeEdge_beyond h (Nat.lt_of_not_le hle)]
    refine takeDue_of_settled (settled_of_ahead fun c hc => ?_)
    have hreg : registered (countEdge forward s) = registered s := registered_congr rfl rfl rfl rfl rfl rfl rfl
    have hfar := hahead c (hreg ▸ hc)
    have hstep := movePosition_le_succ forward s.pos.linePos
    simp only [countEdge, State.withPos_pos]
    omega

/-! ### The crossing at the lowest due position -/

/-- The only crossing at the lowest due position is the lowest. -/
theorem lowestDue_eq_singleton {u : State} {p : Int} {c : Crossing} (hreg : (p, c) ∈ registered u) (hp : p ≤ u.pos.highWater)
    (hlow : ∀ q d, (q, d) ∈ registered u → (q, d) ≠ (p, c) → p < q) (hone : (registered u).count (p, c) = 1) : lowestDue u = [c] := by
  have hmem : (p, c) ∈ dueCrossings u := mem_dueCrossings.mpr ⟨hreg, hp⟩
  have hcount : (dueCrossings u).count (p, c) = 1 := by
    rw [dueCrossings, List.count_filter (by simpa using hp), hone]
  have hle (x : Int × Crossing) (hx : x ∈ dueCrossings u) : p ≤ x.1 := by
    by_cases he : x = (p, c)
    · rw [he]
    · exact (hlow x.1 x.2 (mem_dueCrossings.mp hx).1 he).le
  have hfilter : (dueCrossings u).filter (fun x => (dueCrossings u).all fun d => x.1 ≤ d.1)
      = (dueCrossings u).filter (· == (p, c)) := by
    refine List.filter_congr fun x hx => ?_
    rw [Bool.eq_iff_iff, List.all_eq_true, beq_iff_eq]
    simp only [decide_eq_true_eq]
    refine ⟨fun hall => ?_, fun he d hd => by rw [he]; exact hle d hd⟩
    by_contra hne
    exact absurd (hlow x.1 x.2 (mem_dueCrossings.mp hx).1 hne) (not_lt.mpr (hall _ hmem))
  simp only [lowestDue, hfilter, List.filter_beq, hcount, List.replicate_one, List.map_cons, List.map_nil]

/-- Settles O3. -/
theorem encoderEdgeMovesPositions : Obligations.EncoderEdgeMovesPositions := by
  refine ⟨fun s e hp hr => ⟨takeEdge e s, ?_, ?_⟩, fun u h => drain_of_settled (settled_of_ahead h), fun u p c hreg hdue hlow hone => ?_⟩
  · rw [exec, execEncoderEdge, unlessReset_of_high hr]
  · have hhigh : s.pos.linePos ≤ s.pos.highWater := hp.1
    cases hf : edgeForward s.model.aLeadsForward e with
    | none =>
      have heq : takeEdge e s = s := by simp only [takeEdge, hf]
      rw [heq]
      refine ⟨?_, ?_, fun _ => rfl, (max_eq_left hhigh).symm, fun _ => rfl, fun _ => rfl, fun h => absurd h (not_lt.mpr hhigh)⟩
      · rintro level other rfl
        exact absurd hf (by simp [edgeForward])
      · rintro level other rfl
        exact absurd hf (by simp [edgeForward])
    | some forward =>
      obtain ⟨hline, hwater⟩ := takeEdge_positions hf
      rw [hwater, hline]
      refine ⟨?_, ?_, ?_, rfl, fun h => takeEdge_ahead hf hp h, fun hle => ?_, fun hlt hin => ?_⟩
      · rintro level other rfl
        obtain rfl := Option.some.inj hf
        simp only [movePosition_eq, beq_iff_eq]
      · rintro level other rfl
        obtain rfl := Option.some.inj hf
        simp only [movePosition_eq, beq_iff_eq]
      · rintro rfl
        exact absurd hf (by simp [edgeForward])
      · rw [takeEdge_within hf hle, countEdge, max_eq_left hle]
      · rw [takeEdge_beyond hf hlt, takeDue_of_noInput (by simpa [inputWaits, countEdge] using hin), countEdge, max_eq_right hlt.le]
  · have hone' := lowestDue_eq_singleton hreg hdue hlow hone
    refine ⟨drainBound u - 1, by unfold drainBound; omega, ?_⟩
    have hfuel : drainBound u = drainBound u - 1 + 1 := by unfold drainBound; omega
    rw [drain, hfuel, drainFuel, hone']
    rfl

end Sys2Proof.Machine

/-! What the operations raise and claim: which notice kinds they can raise and which slots they can change (R74, R75, R93, R183). -/

namespace Sys2Proof.Machine

open Sys2Proof

/-! ### Notices raised once, or not at all -/

theorem RaisedOnce.of_raise (k : NoticeKind) (s : State) : RaisedOnce k s (raiseNotice k s) := by
  intro m
  rw [pendingCount_raiseNotice_same, raiseCount, saturate_eq_min, min_comm]

theorem NotRaised.refl (k : NoticeKind) (s : State) : NotRaised k s s := fun _ => rfl

theorem NotRaised.trans {k : NoticeKind} {s t u : State} (h : NotRaised k s t) (h' : NotRaised k t u) : NotRaised k s u :=
  fun m => (h' m).trans (h m)

theorem RaisedOnce.before {k : NoticeKind} {s t u : State} (h : RaisedOnce k s t) (h' : NotRaised k t u) : RaisedOnce k s u :=
  fun m => (h' m).trans (h m)

theorem RaisedOnce.after {k : NoticeKind} {s t u : State} (h : NotRaised k s t) (hm : t.link.masks = s.link.masks)
    (h' : RaisedOnce k t u) : RaisedOnce k s u := fun m => by rw [h' m, hm, h m]

/-! ### The kinds that an operation can raise -/

/-- From `s` to `t` the link differs in its pending sets alone, and there in the kinds of `K` alone. -/
structure RaisesOnly (K : List NoticeKind) (s t : State) : Prop where
  link : ∃ n, t.link = { s.link with notices := n }
  others : ∀ k, k ∉ K → NotRaised k s t

theorem RaisesOnly.refl (K : List NoticeKind) (s : State) : RaisesOnly K s s := ⟨⟨_, rfl⟩, fun k _ => .refl k s⟩

theorem RaisesOnly.trans {K : List NoticeKind} {s t u : State} (h : RaisesOnly K s t) (h' : RaisesOnly K t u) : RaisesOnly K s u := by
  obtain ⟨_, hn⟩ := h.link
  obtain ⟨n, hn'⟩ := h'.link
  exact ⟨⟨n, by rw [hn', hn]⟩, fun k hk => (h.others k hk).trans (h'.others k hk)⟩

theorem RaisesOnly.of_link {K : List NoticeKind} {s t : State} (h : t.link = s.link) : RaisesOnly K s t :=
  ⟨⟨s.link.notices, h⟩, fun _ _ _ => by simp only [pendingCount, h]⟩

theorem RaisesOnly.raiseNotice {K : List NoticeKind} {k : NoticeKind} (h : k ∈ K) (s : State) : RaisesOnly K s (raiseNotice k s) :=
  ⟨⟨_, rfl⟩, fun k' hk _ => pendingCount_raiseNotice_other (by rintro rfl; exact hk h) _ s⟩

theorem RaisesOnly.mono {K L : List NoticeKind} (hKL : K ⊆ L) {s t : State} (h : RaisesOnly K s t) : RaisesOnly L s t :=
  ⟨h.link, fun k hk => h.others k fun hm => hk (hKL hm)⟩

theorem RaisesOnly.masks {K : List NoticeKind} {s t : State} (h : RaisesOnly K s t) : t.link.masks = s.link.masks := by
  obtain ⟨_, hn⟩ := h.link
  rw [hn]

/-! ### What the stations and the embosser give off -/

/-- From `s` to `t` at most STATION_LOST and EMBOSS_CHANGE were raised, and no slot but REG differs (R74, R75, R93). -/
structure GivesOff (s t : State) : Prop where
  raises : RaisesOnly [.stationLost, .embossChange] s t
  slots : ∀ k, k ≠ .reg → t.speed.slots.get k = s.speed.slots.get k

theorem GivesOff.refl (s : State) : GivesOff s s := ⟨.refl _ s, fun _ _ => rfl⟩

theorem GivesOff.trans {s t u : State} (h : GivesOff s t) (h' : GivesOff t u) : GivesOff s u :=
  ⟨h.raises.trans h'.raises, fun k hk => (h'.slots k hk).trans (h.slots k hk)⟩

theorem GivesOff.of_same {s t : State} (hl : t.link = s.link) (hs : t.speed = s.speed) : GivesOff s t :=
  ⟨.of_link hl, fun _ _ => by rw [hs]⟩

theorem GivesOff.foldl {α : Type} {f : State → α → State} (h : ∀ s a, GivesOff s (f s a)) (xs : List α) (s : State) :
    GivesOff s (xs.foldl f s) := by
  induction xs generalizing s with
  | nil => exact .refl s
  | cons a as ih => exact (h s a).trans (ih _)

theorem setSlot_slots (k : Slot) (c : Option ClaimValue) (s : State) : (setSlot k c s).speed.slots = s.speed.slots.set k c :=
  arbitrate_slots _ _

theorem GivesOff.updateRegClaim (s : State) : GivesOff s (updateRegClaim s) := by
  refine ⟨.of_link (updateRegClaim_link s), fun k hk => ?_⟩
  unfold Machine.updateRegClaim
  split <;> rw [setSlot_slots, PerSlot.get_set_other _ _ _ _ hk]

theorem GivesOff.stationLost (s : State) : GivesOff s (raiseNotice .stationLost s) := ⟨.raiseNotice (by simp) s, fun _ _ => rfl⟩

theorem GivesOff.setStation (st : Station) (r : StationRecord) (s : State) : GivesOff s (setStation st r s) := .of_same rfl rfl

theorem GivesOff.enterLost (st : Station) (s : State) : GivesOff s (enterLost st s) :=
  (GivesOff.setStation st _ s).trans ((GivesOff.stationLost _).trans (.updateRegClaim _))

theorem GivesOff.stationOff (st : Station) (s : State) : GivesOff s (stationOff st s) := by
  simp only [Machine.stationOff]
  split
  · exact (GivesOff.setStation st _ s).trans (.updateRegClaim _)
  · exact .setStation st _ s

theorem GivesOff.switchStation (st : Station) (rec : Repeat) (s : State) : GivesOff s (switchStation st rec s) := by
  unfold Machine.switchStation
  split
  · exact .stationOff st s
  · simp only
    split
    · split
      · exact (GivesOff.setStation _ _ _).trans (.enterLost st _)
      · exact .setStation _ _ _
    · split
      · exact (GivesOff.setStation _ _ _).trans (.enterLost st _)
      · exact .setStation _ _ _
    · exact (GivesOff.setStation _ _ _).trans (.updateRegClaim _)
    all_goals exact .setStation _ _ _

theorem GivesOff.placeWindow (st : Station) (rec : Repeat) (s : State) : GivesOff s (placeWindow st rec s) := .of_same (by simp) (by simp)

theorem GivesOff.writeResult (st : Station) (n : Nat) (res : StationResult) (s : State) : GivesOff s (writeResult st n res s) :=
  .of_same (by simp) (by simp)

theorem GivesOff.missRecord (st : Station) (rec : Repeat) (s : State) : GivesOff s (missRecord st rec s) := by
  simp only [Machine.missRecord]
  refine GivesOff.trans ?_ (.of_same (advanceCursor_link _ _) (advanceCursor_speed _ _))
  split
  · exact (GivesOff.writeResult _ _ _ s).trans ((GivesOff.setStation _ _ _).trans (.enterLost _ _))
  · exact (GivesOff.writeResult _ _ _ s).trans (.setStation _ _ _)

theorem GivesOff.settleStation (st : Station) (n : Nat) (s : State) : GivesOff s (settleStation st n s) := by
  induction n generalizing s with
  | zero => exact .refl s
  | succ n ih =>
    unfold Machine.settleStation
    repeat' split
    · exact .refl s
    · exact (GivesOff.switchStation _ _ s).trans (ih _)
    · exact (GivesOff.of_same (advanceCursor_link _ _) (advanceCursor_speed _ _)).trans (ih _)
    · exact (GivesOff.of_same (skipRecord_link _ _ _) (skipRecord_speed _ _ _)).trans (ih _)
    · exact .refl s
    · exact (GivesOff.placeWindow _ _ s).trans (.setStation _ _ _)
    · exact (GivesOff.placeWindow _ _ s).trans ((GivesOff.missRecord _ _ _).trans (ih _))
    · exact .placeWindow _ _ s

theorem GivesOff.restStation (st : Station) (s : State) : GivesOff s (restStation st s) := .settleStation _ _ s

theorem GivesOff.recheckStations (s : State) : GivesOff s (recheckStations s) := .foldl (fun s st => .restStation st s) _ s

theorem GivesOff.stationMiss (st : Station) (rec : Repeat) (s : State) : GivesOff s (stationMiss st rec s) :=
  (GivesOff.missRecord st rec s).trans (.restStation st _)

theorem GivesOff.station7Status (n : Nat) (s : State) : GivesOff s (station7Status n s) := by
  simp only [Machine.station7Status]
  split
  · exact .refl s
  · split
    · exact .refl s
    · split
      · split
        · exact (GivesOff.setStation _ _ _).trans (.stationMiss _ _ _)
        · exact .setStation _ _ _
      · exact (GivesOff.setStation _ _ _).trans (.restStation _ _)

theorem GivesOff.stationAtCreation (rec : Repeat) (s : State) (st : Station) : GivesOff s (stationAtCreation rec s st) := by
  unfold Machine.stationAtCreation
  repeat' split
  · exact (GivesOff.setStation _ _ s).trans (.restStation _ _)
  · exact .refl s
  · exact .restStation _ s
  · exact .refl s

theorem GivesOff.stationsAtCreation (rec : Repeat) (s : State) : GivesOff s (stationsAtCreation rec s) :=
  .foldl (GivesOff.stationAtCreation rec) _ s

/-! ### The embosser and the nip -/

theorem GivesOff.noteEmbossMove (s : State) : GivesOff s (noteEmbossMove s) := by
  unfold Machine.noteEmbossMove
  split
  · exact .refl s
  · exact ⟨RaisesOnly.raiseNotice (by simp) s |>.trans (.of_link rfl), fun _ _ => rfl⟩

theorem GivesOff.moveEmboss (e : EmbossState) (n : Nat) (s : State) : GivesOff s (moveEmboss e n s) := by
  have h (v : EmbossUnit) : GivesOff s (s.withEmboss v) := .of_same rfl rfl
  simp only [Machine.moveEmboss]
  split
  · exact h _
  · exact (h _).trans (.noteEmbossMove _)

theorem GivesOff.beginSettling (s : State) : GivesOff s (beginSettling s) := by
  unfold Machine.beginSettling
  split <;> exact .moveEmboss _ _ s

theorem GivesOff.retestCauses (s : State) : GivesOff s (retestCauses s) := by
  unfold Machine.retestCauses
  repeat' split
  · exact .refl s
  · exact .refl s
  · exact .beginSettling s
  · exact .moveEmboss _ _ s
  · exact .refl s
  · exact .moveEmboss _ _ s
  · exact .refl s

/-- A change of the embosser after which the causes are found again. -/
theorem GivesOff.retested (v : EmbossUnit) (s : State) : GivesOff s (Machine.retestCauses (s.withEmboss v)) :=
  have h : GivesOff s (s.withEmboss v) := .of_same rfl rfl
  h.trans (.retestCauses _)

theorem GivesOff.placeLift (rec : Repeat) (s : State) : GivesOff s (placeLift rec s) := by
  unfold Machine.placeLift
  split
  · simp only
    split
    · exact .refl s
    · exact .retested _ s
  · exact .refl s

theorem GivesOff.removeLifts (p : SpliceLift → Bool) (s : State) : GivesOff s (removeLifts p s) := by
  unfold Machine.removeLifts
  split
  · exact .retested _ s
  · exact .refl s

theorem GivesOff.switchNipJob (rec : Repeat) (s : State) : GivesOff s (switchNipJob rec s) := by
  have h (v : EmbossUnit) : GivesOff s (s.withEmboss v) := .of_same rfl rfl
  have hlower (u : State) : GivesOff u (lowerSettle u) := by
    unfold lowerSettle
    split
    · exact .moveEmboss _ _ u
    · exact .refl u
  simp only [Machine.switchNipJob]
  split
  · exact (h _).trans (.moveEmboss _ _ _)
  · split
    · exact (h _).trans (.moveEmboss _ _ _)
    · exact (h _).trans (.beginSettling _)
  · exact (GivesOff.retested _ s).trans (hlower _)

theorem GivesOff.arriveAtNip (rec : Repeat) (s : State) : GivesOff s (arriveAtNip rec s) := by
  unfold Machine.arriveAtNip
  split
  · exact .switchNipJob rec s
  · exact .refl s

theorem GivesOff.writeEmboss (rec : Repeat) (s : State) : GivesOff s (writeEmboss rec s) := by
  have hupdate (f : Repeat → Repeat) : GivesOff s (updateRepeat rec.serial f s) := .of_same (by simp) (by simp)
  have hstep (u : State) : GivesOff u (settleStep u) := by
    simp only [settleStep]
    split
    · exact .moveEmboss _ _ u
    · exact .refl u
  simp only [Machine.writeEmboss]
  split
  · exact (hupdate _).trans (hstep _)
  · exact hupdate _

theorem GivesOff.passNip (rec : Repeat) (s : State) : GivesOff s (passNip rec s) := by
  have h (u : State) (m : WebMap) (e : EmbossUnit) : GivesOff u ((u.withMap m).withEmboss e) := .of_same rfl rfl
  exact (GivesOff.removeLifts _ s).trans ((GivesOff.writeEmboss rec _).trans ((h _ _ _).trans (.station7Status _ _)))

theorem GivesOff.settleNip (n : Nat) (s : State) : GivesOff s (settleNip n s) := by
  have h (u : State) (e : EmbossUnit) : GivesOff u (u.withEmboss e) := .of_same rfl rfl
  induction n generalizing s with
  | zero => exact h s _
  | succ n ih =>
    unfold Machine.settleNip
    split
    · exact h s _
    · simp only
      split
      · exact (GivesOff.arriveAtNip _ s).trans ((GivesOff.passNip _ _).trans (ih _))
      · exact (GivesOff.arriveAtNip _ s).trans (h _ _)

theorem GivesOff.restNip (s : State) : GivesOff s (restNip s) := .settleNip _ s

end Sys2Proof.Machine

/-! The completion of the newest record and the resolving of its splices: steps 1 and 2 of R11 and of R12. -/

namespace Sys2Proof.Machine

open Sys2Proof

/-! ### Flagging (R16) -/

/-- The web map after the flagging of the splice repeat `n` of job `j`, up to what the stations write (R16). -/
theorem flagSplice_printedMap {n : Repeat} {j : JobRecord} {s : State} (h : jobOf n.job s = some j) :
    printedMap (flagSplice n s) = { printedMap s with
      ring := (s.map.ring.map (zoneFlagged n.serial j)).map Repeat.printed
      extent := extentReached n.serial j s.map.extent ((newestSerial s).getD 0) } := by
  have hflag : flagRecord n.serial j.excludeBefore j.excludeAfter = zoneFlagged n.serial j := by
    funext r
    simp [flagRecord, zoneFlagged, inZone, Bool.decide_and]
    rfl
  have hplace (u : State) : printedMap (placeLift n (raiseNotice .spliceSeen u)) = printedMap u := printedMap_of_map (by simp)
  simp only [flagSplice, h, recheckStations_printedMap, hplace, hflag]
  rfl

theorem flagSplice_of_noJob {n : Repeat} {s : State} (h : jobOf n.job s = none) : flagSplice n s = s := by simp [flagSplice, h]

/-- Flagging raises SPLICE_SEEN once, and else what the stations and the embosser give off (R16, R64, R88). -/
theorem flagSplice_raises (n : Repeat) (s : State) :
    RaisesOnly [.spliceSeen, .stationLost, .embossChange] s (flagSplice n s) ∧
      ∀ k, k ≠ .reg → (flagSplice n s).speed.slots.get k = s.speed.slots.get k := by
  cases h : jobOf n.job s with
  | none => rw [flagSplice_of_noJob h]; exact ⟨.refl _ s, fun _ _ => rfl⟩
  | some j =>
    simp only [flagSplice, h]
    have hgive (u : State) : GivesOff u (recheckStations (placeLift n u)) := (GivesOff.placeLift n u).trans (.recheckStations _)
    refine ⟨?_, fun k hk => ((hgive _).slots k hk).trans rfl⟩
    have hraise (u : State) (hu : u.link = s.link) : RaisesOnly [.spliceSeen, .stationLost, .embossChange] s (raiseNotice .spliceSeen u) :=
      RaisesOnly.trans (.of_link hu) (.raiseNotice (by simp) u)
    exact (hraise _ (by rfl)).trans ((hgive _).raises.mono (by simp))

theorem flagSplice_raisedOnce {n : Repeat} {j : JobRecord} {s : State} (h : jobOf n.job s = some j) :
    RaisedOnce .spliceSeen s (flagSplice n s) := by
  simp only [flagSplice, h]
  have hgive (u : State) : GivesOff u (recheckStations (placeLift n u)) := (GivesOff.placeLift n u).trans (.recheckStations _)
  have hraise (u : State) (hu : u.link = s.link) : RaisedOnce .spliceSeen s (raiseNotice .spliceSeen u) :=
    .after (fun m => by simp only [pendingCount, hu]) (by rw [hu]) (.of_raise _ u)
  exact (hraise _ (by rfl)).before ((hgive _).raises.others _ (by simp))

/-! ### The newest record (R11, R12, R15) -/

/-- A record of the ring when the newest, `last`, has taken its length (R11 step 1). -/
def lengthenedRecord (start : Nat) (last r : Repeat) : Repeat :=
  if r.serial = last.serial then { r with length := some (start - last.start) } else r

/-- The newest record with its length. -/
def completedRecord (start : Nat) (last : Repeat) : Repeat := { last with length := some (start - last.start) }

/-- The newest record takes its length. -/
def lengthened (start : Nat) (last : Repeat) (s : State) : State :=
  updateRepeat last.serial (fun x => { x with length := some (start - last.start) }) s

theorem lengthened_map (start : Nat) (last : Repeat) (s : State) :
    (lengthened start last s).map = { s.map with ring := s.map.ring.map (lengthenedRecord start last) } := by
  have hrec : lengthenedRecord start last
      = fun r => if r.serial == last.serial then { r with length := some (start - last.start) } else r := by
    funext r
    simp [lengthenedRecord]
  rw [lengthened, updateRepeat_map, hrec]

theorem completedAt_of_empty {s : State} (h : s.map.ring = []) (start : Nat) : completedAt start s = s := by
  simp [completedAt, completeNewest, h]

theorem completedAt_eq {s : State} {last : Repeat} (h : s.map.ring.getLast? = some last) (start : Nat) :
    completedAt start s = resolveSplices (lengthened start last s) := by
  simp only [completedAt, completeNewest, h]
  rfl

theorem lengthened_getLast {s : State} {last : Repeat} (h : s.map.ring.getLast? = some last) (start : Nat) :
    (lengthened start last s).map.ring.getLast? = some (completedRecord start last) := by
  simp [lengthened_map, List.getLast?_map, h, lengthenedRecord, completedRecord]

/-- A position lies in the completed span of the newest record (R15). -/
theorem inSpan_lengthened {s : State} {last : Repeat} (h : s.map.ring.getLast? = some last) (start p : Nat) :
    inSpan p (completedRecord start last) = inCompletedSpan start s p := by
  have hspan : inSpan p (completedRecord start last) = (decide (last.start ≤ p) && decide (p < last.start + (start - last.start))) := rfl
  rw [hspan, Bool.eq_iff_iff]
  simp only [inCompletedSpan, h, Bool.and_eq_true, decide_eq_true_eq]
  omega

/-- Steps 1 and 2 of R11 in a state with a newest record: its splices leave the list, and it is flagged when there were any. -/
theorem completedAt_cases {s : State} {last : Repeat} (h : s.map.ring.getLast? = some last) (start : Nat) :
    completedAt start s =
      if s.pos.splices.any (inCompletedSpan start s) then
        flagSplice (completedRecord start last)
          ((lengthened start last s).withPos { s.pos with splices := s.pos.splices.filter fun p => !inCompletedSpan start s p })
      else lengthened start last s := by
  have hpos : (lengthened start last s).pos = s.pos := updateRepeat_pos _ _ s
  rw [completedAt_eq h, resolveSplices, lengthened_getLast h]
  simp only [inSpan_lengthened h, hpos]

theorem lengthened_link (start : Nat) (last : Repeat) (s : State) : (lengthened start last s).link = s.link := by simp [lengthened]

theorem lengthened_speed (start : Nat) (last : Repeat) (s : State) : (lengthened start last s).speed = s.speed := by simp [lengthened]

/-- Completing raises SPLICE_SEEN at most, and else what the stations and the embosser give off. -/
theorem completedAt_raises (start : Nat) (s : State) :
    RaisesOnly [.spliceSeen, .stationLost, .embossChange] s (completedAt start s) ∧
      ∀ k, k ≠ .reg → (completedAt start s).speed.slots.get k = s.speed.slots.get k := by
  cases h : s.map.ring.getLast? with
  | none => rw [completedAt_of_empty (List.getLast?_eq_none_iff.mp h)]; exact ⟨.refl _ s, fun _ _ => rfl⟩
  | some last =>
    have hsame (v : PositionUnit) : ((lengthened start last s).withPos v).link = s.link := lengthened_link start last s
    have hspeed (v : PositionUnit) : ((lengthened start last s).withPos v).speed = s.speed := lengthened_speed start last s
    rw [completedAt_cases h]
    split
    · obtain ⟨hr, hk⟩ := flagSplice_raises (completedRecord start last)
        ((lengthened start last s).withPos { s.pos with splices := s.pos.splices.filter fun p => !inCompletedSpan start s p })
      exact ⟨RaisesOnly.trans (.of_link (hsame _)) hr, fun k hne => (hk k hne).trans (by rw [hspeed])⟩
    · exact ⟨.of_link (lengthened_link _ _ s), fun _ _ => by rw [lengthened_speed]⟩

theorem completedAt_pos (start : Nat) (s : State) :
    (completedAt start s).pos = { s.pos with splices := s.pos.splices.filter fun p => !inCompletedSpan start s p } := by
  have hkeep (hno : s.pos.splices.any (inCompletedSpan start s) = false) :
      s.pos = { s.pos with splices := s.pos.splices.filter fun p => !inCompletedSpan start s p } := by
    have hfilter : (s.pos.splices.filter fun p => !inCompletedSpan start s p) = s.pos.splices :=
      List.filter_eq_self.mpr fun p hp => by simpa using (List.any_eq_false.mp hno) p hp
    rw [hfilter]
  cases h : s.map.ring.getLast? with
  | none =>
    rw [completedAt_of_empty (List.getLast?_eq_none_iff.mp h)]
    exact hkeep (List.any_eq_false.mpr fun p _ => by simp [inCompletedSpan, h])
  | some last =>
    rw [completedAt_cases h]
    split
    · simp
    · next hno =>
      rw [lengthened, updateRepeat_pos]
      exact hkeep (by simpa using hno)

theorem jobOf_congr {s t : State} (h : t.jobs = s.jobs) (tag : Nat) : jobOf tag t = jobOf tag s := by simp only [jobOf, h]

theorem newestSerial_of_last {s : State} {last : Repeat} (h : s.map.ring.getLast? = some last) : newestSerial s = some last.serial := by
  simp [newestSerial, h]

/-- The splice repeat of a completion, by whether a position is resolved and its job is in the path. -/
theorem spliceRepeatAt_of_last {s : State} {last : Repeat} (h : s.map.ring.getLast? = some last) (start : Nat) :
    spliceRepeatAt start s =
      if s.pos.splices.any (inCompletedSpan start s) then (jobOf last.job s).map fun j => (last.serial, j) else none := by
  simp [spliceRepeatAt, h]

/-- What completing leaves in the web map, up to what the stations write (R11, R15, R16). -/
theorem completedAt_printedMap {s : State} (start : Nat) :
    printedMap (completedAt start s) = { printedMap s with
      ring := (recordsCompleted start s).map Repeat.printed
      extent := extentCompleted start s } := by
  cases h : s.map.ring.getLast? with
  | none =>
    have hempty := List.getLast?_eq_none_iff.mp h
    rw [completedAt_of_empty hempty]
    simp [printedMap, hempty, recordsCompleted, extentCompleted, spliceRepeatAt]
  | some last =>
    have hjob (v : PositionUnit) : jobOf (completedRecord start last).job ((lengthened start last s).withPos v) = jobOf last.job s :=
      jobOf_congr (by simp [lengthened]) _
    have hsp := spliceRepeatAt_of_last h start
    have hplain : printedMap (lengthened start last s) = { printedMap s with
        ring := (s.map.ring.map (lengthenedRecord start last)).map Repeat.printed } := by
      simp only [printedMap, lengthened_map]
    rw [completedAt_cases h]
    simp only [recordsCompleted, extentCompleted, h, hsp]
    split
    · cases hj : jobOf last.job s with
      | none =>
        rw [flagSplice_of_noJob (by exact (hjob _).trans hj)]
        exact hplain
      | some j =>
        have hnew (v : PositionUnit) : newestSerial ((lengthened start last s).withPos v) = some last.serial :=
          newestSerial_of_last (s := lengthened start last s) (last := completedRecord start last) (lengthened_getLast h start)
        rw [flagSplice_printedMap (by exact (hjob _).trans hj), hnew]
        simp only [printedMap, State.withPos_map, lengthened_map, List.map_map]
        rfl
    · exact hplain

/-- SPLICE_SEEN is raised once exactly when a splice repeat is flagged (R15, R16). -/
theorem completedAt_spliceSeen (start : Nat) (s : State) :
    ((spliceRepeatAt start s).isSome = true → RaisedOnce .spliceSeen s (completedAt start s))
      ∧ (spliceRepeatAt start s = none → NotRaised .spliceSeen s (completedAt start s)) := by
  cases h : s.map.ring.getLast? with
  | none =>
    rw [completedAt_of_empty (List.getLast?_eq_none_iff.mp h)]
    exact ⟨fun hs => absurd hs (by simp [spliceRepeatAt, h]), fun _ => .refl _ s⟩
  | some last =>
    have hsame (v : PositionUnit) : ((lengthened start last s).withPos v).link = s.link := lengthened_link start last s
    have hjob (v : PositionUnit) : jobOf (completedRecord start last).job ((lengthened start last s).withPos v) = jobOf last.job s :=
      jobOf_congr (by simp [lengthened]) _
    have hsp := spliceRepeatAt_of_last h start
    rw [completedAt_cases h, hsp]
    split
    · cases hj : jobOf last.job s with
      | none =>
        rw [flagSplice_of_noJob (by exact (hjob _).trans hj)]
        exact ⟨fun hs => absurd hs (by simp), fun _ _ => by simp only [pendingCount, hsame]⟩
      | some j =>
        refine ⟨fun _ => ?_, fun hs => absurd hs (by simp)⟩
        refine .after (t := (lengthened start last s).withPos
          { s.pos with splices := s.pos.splices.filter fun p => !inCompletedSpan start s p }) (fun m => ?_) (by rw [hsame])
          (flagSplice_raisedOnce (n := completedRecord start last) (j := j) (by exact (hjob _).trans hj))
        simp only [pendingCount, hsame]
    · exact ⟨fun hs => absurd hs (by simp), fun _ _ => by simp only [pendingCount, lengthened_link]⟩

end Sys2Proof.Machine

/-! O39: End Job. -/

namespace Sys2Proof.Machine

open Sys2Proof

/-! ### A request, taken and answered (R180, R181) -/

/-- A state that is answering, with nothing gathered, and the answer held for sending. -/
theorem respond_eq_answered {t : State} (h1 : t.link.state = .answering) (h2 : t.link.gathered = []) (m : Master) (n : RequestName)
    (tag : Byte) (outcome : OutcomeCode) (values : List Byte) :
    respond m (requestCode n) tag { outcome := outcome, values := values } t = answered m n tag outcome values t := by
  simp only [respond, answered, h1.symm, h2.symm]

/-- What was raised alone leaves the link answering. -/
theorem RaisesOnly.answering {K : List NoticeKind} {s t : State} (h : RaisesOnly K (beginAnswer s) t) :
    t.link.state = .answering ∧ t.link.gathered = [] := by
  obtain ⟨n, hn⟩ := h.link
  rw [hn]
  exact ⟨rfl, rfl⟩

/-- END_JOB, taken and answered, and what is due drained (R49). -/
theorem exec_endJob {s : State} (hr : Ready s) (tag : Byte) :
    exec (.endJob .line tag) s = .next (drain (respond .line (requestCode .endJob) tag (serveEndJob (beginAnswer s)).2
      (asEvent (fun x => (serveEndJob x).1) (beginAnswer s)))) := by
  obtain ⟨hreset, hlisten, -⟩ := hr
  rw [exec_request_listening (r := .endJob) rfl hreset hlisten]
  rfl

/-- END_JOB whose effect is the state `t` alone. -/
theorem exec_endJob_of_effect {s t : State} (hr : Ready s) {outcome : OutcomeCode} {values : List Byte} (tag : Byte)
    (hf : serveEndJob (beginAnswer s) = (beginAnswer t, { outcome := outcome, values := values }))
    (hg : t.speed = s.speed) (hm : t.model = s.model) :
    exec (.endJob .line tag) s = .next (drain (answered .line .endJob tag outcome values t)) := by
  have hnoticed : (beginAnswer s).model.embossNoticed = false := hr.2.2
  have hevent : asEvent (fun x => (serveEndJob x).1) (beginAnswer s) = beginAnswer t := by
    rw [asEvent_of_granted (by rw [hf]; exact congrArg SpeedUnit.granted hg) hnoticed
      (by rw [hf]; exact (congrArg ModelFields.embossNoticed hm).trans hnoticed), hf]
  rw [exec_endJob hr, hevent, hf]
  rfl

/-! ### The records by their readings -/

/-- A search by serial depends on a reading that holds the serial. -/
theorem findRepeat_of_reading {β : Type} {g : Repeat → β} {sel : β → Nat} (hsel : ∀ r, sel (g r) = r.serial) {s t : State}
    (h : t.map.ring.map g = s.map.ring.map g) (n : Nat) : (findRepeat n t).map g = (findRepeat n s).map g := by
  have hfind (u : State) : (findRepeat n u).map g = (u.map.ring.map g).find? fun b => sel b == n := by
    rw [List.find?_map]
    simp only [findRepeat, Function.comp_def, hsel]
  rw [hfind, hfind, h]

/-- What the knife registration reads of a record (R96). -/
def knifeReading (r : Repeat) : Nat × Nat × Nat := (r.serial, r.start, r.job)

theorem recordsCompleted_reading (start : Nat) (s : State) :
    (recordsCompleted start s).map knifeReading = s.map.ring.map knifeReading := by
  unfold recordsCompleted
  split
  · next h => simp [List.getLast?_eq_none_iff.mp h]
  · rw [List.map_map]
    refine List.map_congr_left fun r _ => ?_
    simp only [Function.comp]
    cases spliceRepeatAt start s <;> simp only <;> split <;> rfl

/-! ### The head job ended (R12, R50) -/

/-- The head job ended with its newest record `r` completed at `start` (R12). -/
theorem endReference_eq {s : State} {j : JobRecord} {r : Repeat} (h : s.map.ring.getLast? = some r) :
    endReference j s =
      (let u := completedAt (r.start + j.length) s
       let v := setRef { u.pos.ref with state := .idle, newestStart := none } u
       if s.pos.ref.state = .lost then setSlot .ref none v else v) := by
  have hc : completeNewest (fun _ => j.length) s = completedAt (r.start + j.length) s := by
    simp only [completedAt, completeNewest, h, Nat.add_sub_cancel_left]
  simp only [endReference, hc]

section

variable {s : State} {h : HeadJob} {r : Repeat}

/-- Where the ended job's newest repeat ends (R50). -/
def endOf (h : HeadJob) (r : Repeat) : Nat := r.start + h.record.length

/-- A reading that neither the reference's record nor the speed authority is part of. -/
theorem endReference_reads {β : Type} {p : State → β} (hs : ∀ u v, p (u.withSpeed v) = p u) (hp : ∀ u v, p (setRef v u) = p u)
    (hlast : s.map.ring.getLast? = some r) : p (endReference h.record s) = p (completedAt (endOf h r) s) := by
  have hslot (u : State) : p (setSlot .ref none u) = p u := hs u _
  rw [endReference_eq hlast]
  simp only
  split
  · rw [hslot, hp]; rfl
  · rw [hp]; rfl

theorem endReference_pos (hlast : s.map.ring.getLast? = some r) : (endReference h.record s).pos = { s.pos with
    ref := { s.pos.ref with state := .idle, newestStart := none }
    splices := s.pos.splices.filter fun p => !inCompletedSpan (endOf h r) s p } := by
  rw [endReference_eq hlast]
  simp only
  have hset : (setRef { (completedAt (endOf h r) s).pos.ref with state := .idle, newestStart := none }
      (completedAt (endOf h r) s)).pos = { s.pos with
    ref := { s.pos.ref with state := .idle, newestStart := none }
    splices := s.pos.splices.filter fun p => !inCompletedSpan (endOf h r) s p } := by
    rw [setRef, completedAt_pos]
    rfl
  split
  · rw [setSlot_pos]; exact hset
  · exact hset

/-- A REF claim is released, and held otherwise only as it was (R12). -/
theorem endReference_refSlot (hlast : s.map.ring.getLast? = some r) :
    (endReference h.record s).speed.slots.get .ref = if s.pos.ref.state = .lost then none else s.speed.slots.get .ref := by
  rw [endReference_eq hlast]
  simp only
  split
  · rw [setSlot_slots, PerSlot.get_set_same]
  · exact (completedAt_raises _ s).2 .ref (by simp)

/-- The records keep their serials, starts and jobs. -/
theorem endReference_reading (hlast : s.map.ring.getLast? = some r) :
    (endReference h.record s).map.ring.map knifeReading = s.map.ring.map knifeReading := by
  have hmap := endReference_reads (h := h) (p := printedMap) (fun _ _ => rfl) (fun _ _ => rfl) hlast
  rw [completedAt_printedMap] at hmap
  have hring : (endReference h.record s).map.ring.map Repeat.printed = (recordsCompleted (endOf h r) s).map Repeat.printed :=
    congrArg WebMap.ring hmap
  have hcomp : knifeReading ∘ Repeat.printed = knifeReading := rfl
  rw [← recordsCompleted_reading (endOf h r) s, ← hcomp, ← List.map_map, hring, List.map_map]

theorem endReference_last (hlast : s.map.ring.getLast? = some r) :
    ∃ x, (endReference h.record s).map.ring.getLast? = some x ∧ x.serial = r.serial ∧ x.start = r.start := by
  have hread := congrArg List.getLast? (endReference_reading (h := h) hlast)
  rw [List.getLast?_map, List.getLast?_map, hlast] at hread
  obtain ⟨x, hx, he⟩ := Option.map_eq_some_iff.mp hread
  exact ⟨x, hx, congrArg Prod.fst he, congrArg (·.2.1) he⟩

/-- The head job in the tail slot, with its last serial and its final boundary (R50). -/
theorem headToTail_endReference_jobs (hlast : s.map.ring.getLast? = some r) :
    (headToTail h (endReference h.record s)).jobs = { s.jobs with
      staged := s.jobs.staged.map fun j => { j with armed := false }
      head := none
      tail := some { record := h.record, firstSerial := h.firstSerial, lastSerial := r.serial, finalBoundary := some (endOf h r) } } := by
  obtain ⟨x, hx, hser, hst⟩ := endReference_last (h := h) hlast
  have hnew : newestSerial (endReference h.record s) = some r.serial := (newestSerial_of_last hx).trans (by rw [hser])
  have hfinal : finalBoundaryOf h.record (endReference h.record s) = endOf h r := by simp [finalBoundaryOf, hx, hst, endOf]
  simp only [headToTail, hnew, hfinal, endReference_jobs, markArmed]
  rfl

/-- A search in the ring after End Job finds a record with the same serial, start and job, or none. -/
theorem findRepeat_headToTail (hlast : s.map.ring.getLast? = some r) (n : Nat) :
    (findRepeat n (headToTail h (endReference h.record s))).map knifeReading = (findRepeat n s).map knifeReading :=
  findRepeat_of_reading (sel := Prod.fst) (fun _ => rfl) (t := headToTail h (endReference h.record s)) (endReference_reading hlast) n

theorem headToTail_knifeCursor (hlast : s.map.ring.getLast? = some r) :
    (headToTail h (endReference h.record s)).map.knifeCursor = s.map.knifeCursor := by
  have hmap := endReference_reads (h := h) (p := printedMap) (fun _ _ => rfl) (fun _ _ => rfl) hlast
  rw [completedAt_printedMap] at hmap
  have hcur : (printedMap (endReference h.record s)).knifeCursor = s.map.knifeCursor := by rw [hmap]; rfl
  exact hcur

/-- The ended job answers for its tag in the tail slot as it did in the head slot. -/
theorem jobOf_headToTail (hh : s.jobs.head = some h) (htail : s.jobs.tail = none) (hlast : s.map.ring.getLast? = some r) (tag : Nat) :
    jobOf tag (headToTail h (endReference h.record s)) = jobOf tag s := by
  simp only [jobOf, headToTail_endReference_jobs hlast, hh, htail, Option.bind_some, Option.bind_none]

/-- The knife registration due after End Job is one that was due before it, or the final knife position (R50, R96). -/
theorem dueKnifeReg_headToTail (hh : s.jobs.head = some h) (htail : s.jobs.tail = none) (hlast : s.map.ring.getLast? = some r)
    {reg : KnifeReg} (hreg : dueKnifeReg (headToTail h (endReference h.record s)) = some reg) :
    dueKnifeReg s = some reg ∨ reg.position = endOf h r + s.jobs.geometry.dCut + h.record.cutPhase := by
  have hfind := findRepeat_headToTail (h := h) hlast
  have hjob := jobOf_headToTail hh htail hlast
  have hcur := headToTail_knifeCursor (h := h) hlast
  have hjobs := headToTail_endReference_jobs (h := h) hlast
  generalize headToTail h (endReference h.record s) = w at hreg hfind hjob hcur hjobs
  simp only [dueKnifeReg, hcur] at hreg
  cases hk : findRepeat s.map.knifeCursor w with
  | none => simp [hk] at hreg
  | some k =>
    have hread := hfind s.map.knifeCursor
    rw [hk] at hread
    obtain ⟨k0, hk0, hke⟩ := Option.map_eq_some_iff.mp hread.symm
    have hser : k0.serial = k.serial := congrArg Prod.fst hke
    simp only [hk] at hreg
    cases hn : findRepeat (k.serial + 1) w with
    | some n =>
      have hread := hfind (k.serial + 1)
      rw [hn] at hread
      obtain ⟨n0, hn0, hne⟩ := Option.map_eq_some_iff.mp hread.symm
      obtain ⟨-, hstart, hnjob⟩ : n0.serial = n.serial ∧ n0.start = n.start ∧ n0.job = n.job := by
        simpa [knifeReading] using hne
      simp only [hn, hjob, hjobs] at hreg
      left
      simp only [dueKnifeReg, hk0, hser, hn0, hstart, hnjob]
      exact hreg
    | none =>
      simp only [hn, hjobs] at hreg
      split at hreg
      · obtain rfl := Option.some.inj hreg
        exact .inr rfl
      · exact absurd hreg (by simp)

/-- The final knife position is registered when the knife rests on the newest record (R50, R96). -/
theorem dueKnifeReg_final (hlast : s.map.ring.getLast? = some r) (hcursor : s.map.knifeCursor = r.serial)
    (hnewest : ∀ x ∈ s.map.ring, x.serial ≤ r.serial) :
    dueKnifeReg (headToTail h (endReference h.record s))
      = some { position := endOf h r + s.jobs.geometry.dCut + h.record.cutPhase, kind := .finalPosition } := by
  have hfind := findRepeat_headToTail (h := h) hlast
  have hcur := headToTail_knifeCursor (h := h) hlast
  have hjobs := headToTail_endReference_jobs (h := h) hlast
  generalize headToTail h (endReference h.record s) = w at hfind hcur hjobs
  have hat : (findRepeat r.serial s).isSome = true := by
    rw [findRepeat, List.find?_isSome]
    exact ⟨r, List.mem_of_getLast? hlast, by simp⟩
  have hnone : findRepeat (r.serial + 1) s = none := by
    rw [findRepeat, List.find?_eq_none]
    intro x hx
    have := hnewest x hx
    simp only [beq_iff_eq]
    omega
  obtain ⟨k0, hk0⟩ := Option.isSome_iff_exists.mp hat
  have hread := hfind r.serial
  rw [hk0] at hread
  obtain ⟨k, hk, hke⟩ := Option.map_eq_some_iff.mp hread
  have hser : k.serial = r.serial := (congrArg Prod.fst hke : k.serial = k0.serial).trans (findRepeat_eq_some hk0).1
  have hnext : findRepeat (r.serial + 1) w = none := by
    have := hfind (r.serial + 1)
    rw [hnone] at this
    exact Option.map_eq_none_iff.mp this
  simp only [dueKnifeReg, hcur, hcursor, hk, hser, hnext, hjobs, if_true, Option.map_some]

end

/-- With its registration ahead of the high-water position the knife comes to rest at once (R96). -/
theorem restKnife_of_ahead {s : State} (h : ∀ reg, dueKnifeReg s = some reg → s.pos.highWater < reg.position) :
    restKnife s = placeKnife s := by
  unfold restKnife
  cases s.map.ring.length with
  | zero => rfl
  | succ n =>
    unfold settleKnife
    split
    · next reg k hreg _ => rw [if_neg (Nat.not_le.mpr (h reg hreg))]
    · rfl

/-- End Job places the knife registration and moves the knife no further, while the final position lies ahead (R50, R96). -/
theorem endHead_eq_placeKnife {s : State} {h : HeadJob} {r : Repeat} (hh : s.jobs.head = some h) (htail : s.jobs.tail = none)
    (hlast : s.map.ring.getLast? = some r) (hdue : ∀ reg, dueKnifeReg s = some reg → s.pos.highWater < reg.position)
    (hfinal : s.pos.highWater < endOf h r + s.jobs.geometry.dCut) :
    endHead h s = placeKnife (headToTail h (endReference h.record s)) := by
  refine restKnife_of_ahead fun reg hreg => ?_
  have hw : (endReference h.record s).pos.highWater = s.pos.highWater := by rw [endReference_pos hlast]
  have hw' : (headToTail h (endReference h.record s)).pos.highWater = s.pos.highWater := hw
  rw [hw']
  rcases dueKnifeReg_headToTail hh htail hlast hreg with h' | h'
  · exact hdue reg h'
  · omega

/-! ### What the event as a whole leaves -/

/-- An event raises what its effect raises, and CLAIM_CHANGE (R169). -/
theorem asEvent_raises {K : List NoticeKind} {f : State → State} {s : State} (h : RaisesOnly K (withEventClosed s) (f (withEventClosed s)))
    (hK : .claimChange ∈ K) : RaisesOnly K s (asEvent f s) := by
  have hclosed (u : State) : RaisesOnly K u (withEventClosed u) := .of_link rfl
  have hgrant (u : State) : RaisesOnly K u (grantNoticed s u) := by
    unfold grantNoticed
    split
    · exact .refl K u
    · exact .raiseNotice hK u
  rw [asEvent_eq]
  exact (hclosed s).trans (h.trans ((hgrant _).trans (hclosed _)))

/-- A kind other than CLAIM_CHANGE is raised in an event as its effect raises it. -/
theorem asEvent_pendingCount {k : NoticeKind} (hk : k ≠ .claimChange) (m : Master) (f : State → State) (s : State) :
    pendingCount m k (asEvent f s) = pendingCount m k (f (withEventClosed s)) := by
  have hclosed (u : State) : pendingCount m k (withEventClosed u) = pendingCount m k u := rfl
  rw [asEvent_eq, hclosed, grantNoticed]
  split
  · rfl
  · exact pendingCount_raiseNotice_other hk m _

theorem inCompletedSpan_of_last {s : State} {r : Repeat} (h : s.map.ring.getLast? = some r) (start p : Nat) :
    inCompletedSpan start s p = (decide (r.start ≤ p) && decide (p < start)) := by
  simp only [inCompletedSpan, h]

/-- The answer to an END_JOB that ends the head job (R49, R50). -/
theorem serveEndJob_finish {s : State} {h : HeadJob} {r : Repeat} (hh : s.jobs.head = some h) (htail : s.jobs.tail = none)
    (hlast : s.map.ring.getLast? = some r) : serveEndJob s = (endHead h s, { outcome := .ok, values :=
      2 :: (bytesOf 2 h.record.number ++ bytesOf 4 r.serial ++ bytesOf 6 (r.start + h.record.length)) }) := by
  have hv : judgeEnd s = .finish h := by simp [judgeEnd, hh, htail]
  have hnew : newestSerial s = some r.serial := newestSerial_of_last hlast
  have hfinal : finalBoundaryOf h.record s = r.start + h.record.length := by simp [finalBoundaryOf, hlast]
  simp only [serveEndJob, hv, hnew, hfinal, Option.getD_some]
  rfl

/-- The record that End Job completes is the newest, with the ended job's length (R12). -/
theorem completed_last {s t : State} {h : HeadJob} {r : Repeat} (hlast : s.map.ring.getLast? = some r)
    (hring : t.map.ring.map Repeat.printed = (recordsCompleted (endOf h r) s).map Repeat.printed) :
    ∃ r', t.map.ring.getLast? = some r' ∧ r'.serial = r.serial ∧ r'.length = some h.record.length := by
  have hlen : endOf h r - r.start = h.record.length := Nat.add_sub_cancel_left _ _
  have hread := congrArg List.getLast? hring
  rw [List.getLast?_map, List.getLast?_map, recordsCompleted, hlast] at hread
  simp only [List.getLast?_map, hlast, Option.map_some, if_true, hlen] at hread
  obtain ⟨x, hx, he⟩ := Option.map_eq_some_iff.mp hread
  have hboth : (x.printed.serial, x.printed.length) = (r.serial, some h.record.length) := by
    rw [he]
    cases spliceRepeatAt (endOf h r) s <;> rfl
  exact ⟨x, hx, (Prod.mk.inj hboth).1, (Prod.mk.inj hboth).2⟩

/-- End Job on the head job, without a tail job and with every knife position ahead: the ended state, field by field (R12, R50). -/
theorem endHead_fields {s : State} {h : HeadJob} {r : Repeat} (hh : s.jobs.head = some h) (htail : s.jobs.tail = none)
    (hlast : s.map.ring.getLast? = some r) (hdue : ∀ reg, dueKnifeReg s = some reg → s.pos.highWater < reg.position)
    (hfinal : s.pos.highWater < endOf h r + s.jobs.geometry.dCut) :
    (endHead h s).jobs = { s.jobs with
        staged := s.jobs.staged.map fun j => { j with armed := false }
        head := none
        tail := some { record := h.record, firstSerial := h.firstSerial, lastSerial := r.serial, finalBoundary := some (endOf h r) } }
      ∧ (endHead h s).pos = { s.pos with
        ref := { s.pos.ref with state := .idle, newestStart := none }
        splices := s.pos.splices.filter fun p => !inCompletedSpan (endOf h r) s p }
      ∧ (endHead h s).speed.slots.get .ref = (if s.pos.ref.state = .lost then none else s.speed.slots.get .ref)
      ∧ (endHead h s).shade = { s.shade with target := none, headCounter := none, tailCounter := s.shade.headCounter }
      ∧ printedMap (endHead h s) = printedMap (completedAt (endOf h r) s)
      ∧ (endHead h s).link = (completedAt (endOf h r) s).link
      ∧ (s.map.knifeCursor = r.serial → (∀ x ∈ s.map.ring, x.serial ≤ r.serial) → (endHead h s).rolls.knifeReg
        = some { position := endOf h r + s.jobs.geometry.dCut + h.record.cutPhase, kind := .finalPosition }) := by
  rw [endHead_eq_placeKnife hh htail hlast hdue hfinal]
  refine ⟨headToTail_endReference_jobs hlast, endReference_pos hlast, endReference_refSlot hlast, ?_, ?_, ?_, fun hc hn => ?_⟩
  · have hshade : (endReference h.record s).shade = s.shade :=
      (endReference_reads (p := (·.shade)) (fun _ _ => rfl) (fun _ _ => rfl) hlast).trans (completeNewest_shade _ s)
    rw [placeKnife_shade, headToTail, State.withShade_shade, hshade]
    rfl
  · exact (endReference_reads (h := h) (p := printedMap) (fun _ _ => rfl) (fun _ _ => rfl) hlast)
  · exact (endReference_reads (h := h) (p := (·.link)) (fun _ _ => rfl) (fun _ _ => rfl) hlast)
  · exact dueKnifeReg_final hlast hc hn

/-- Settles O39. -/
theorem endJob : Obligations.EndJob := by
  intro s tag hready
  refine ⟨fun hh harm => ?_, fun hh ht => ?_, fun hh harm => ?_, fun h r hh htail hlast hdue hfinal => ?_⟩
  · have hv : judgeEnd (beginAnswer s) = .noJob := by
      have harm' : armedJob (beginAnswer s) = none := harm
      have hh' : (beginAnswer s).jobs.head = none := hh
      simp [judgeEnd, hh', harm']
    exact exec_endJob_of_effect hready tag (by simp only [serveEndJob, hv]; rfl) rfl rfl
  · obtain ⟨h, hh⟩ := Option.isSome_iff_exists.mp hh
    have hv : judgeEnd (beginAnswer s) = .busy := by
      have hh' : (beginAnswer s).jobs.head = some h := hh
      have ht' : (beginAnswer s).jobs.tail.isSome = true := ht
      simp [judgeEnd, hh', ht']
    exact exec_endJob_of_effect hready tag (by simp only [serveEndJob, hv]; rfl) rfl rfl
  · have hv : judgeEnd (beginAnswer s) = .withdraw := by
      have harm' : (armedJob (beginAnswer s)).isSome = true := harm
      have hh' : (beginAnswer s).jobs.head = none := hh
      simp [judgeEnd, hh', harm']
    exact exec_endJob_of_effect hready tag (by simp only [serveEndJob, hv]; rfl) rfl rfl
  · have hb := serveEndJob_finish (s := beginAnswer s) hh htail hlast
    have he := serveEndJob_finish (s := withEventClosed (beginAnswer s)) hh htail hlast
    obtain ⟨hjobs, hpos, hslot, hshade, hmap, hlink, hknife⟩ :=
      endHead_fields (s := withEventClosed (beginAnswer s)) hh htail hlast hdue hfinal
    have hreads {β : Type} {p : State → β} (h1 : ∀ u v, p (u.withLink v) = p u) (h2 : ∀ u v, p (u.withModel v) = p u) :
        p (asEvent (fun x => (serveEndJob x).1) (beginAnswer s)) = p (endHead h (withEventClosed (beginAnswer s))) := by
      rw [asEvent_reads h1 h2, he]
    have hraises : RaisesOnly [.spliceSeen, .stationLost, .embossChange, .claimChange] (beginAnswer s)
        (asEvent (fun x => (serveEndJob x).1) (beginAnswer s)) := by
      refine asEvent_raises ?_ (by simp)
      rw [he]
      exact ((completedAt_raises _ _).1.mono (by simp)).trans (.of_link hlink)
    have hcount (m : Master) : pendingCount m .spliceSeen (asEvent (fun x => (serveEndJob x).1) (beginAnswer s))
        = pendingCount m .spliceSeen (completedAt (endOf h r) (withEventClosed (beginAnswer s))) := by
      rw [asEvent_pendingCount (by simp), he]
      simp only [pendingCount, hlink]
    obtain ⟨hseen, hunseen⟩ := completedAt_spliceSeen (endOf h r) (withEventClosed (beginAnswer s))
    have hring := hreads (p := printedMap) (fun _ _ => rfl) (fun _ _ => rfl) |>.trans (hmap.trans (completedAt_printedMap _))
    refine ⟨asEvent (fun x => (serveEndJob x).1) (beginAnswer s), ?_, ?_, ?_, fun hl => ?_, fun hl => ?_, ?_, ?_, ?_, ?_, fun hs m => ?_,
      fun hs m => ?_, fun hc hn => ?_⟩
    · rw [exec_endJob hready, hb, respond_eq_answered hraises.answering.1 hraises.answering.2]
    · exact (hreads (p := (·.jobs)) (fun _ _ => rfl) (fun _ _ => rfl)).trans hjobs
    · refine (hreads (p := (·.pos)) (fun _ _ => rfl) (fun _ _ => rfl)).trans (hpos.trans ?_)
      have hin (p : Nat) : inCompletedSpan (endOf h r) (withEventClosed (beginAnswer s)) p
          = (decide (r.start ≤ p) && decide (p < r.start + h.record.length)) := inCompletedSpan_of_last hlast _ p
      simp only [hin]
      rfl
    · exact (hreads (p := (·.speed.slots.get .ref)) (fun _ _ => rfl) (fun _ _ => rfl)).trans (hslot.trans (if_pos hl))
    · exact (hreads (p := (·.speed.slots.get .ref)) (fun _ _ => rfl) (fun _ _ => rfl)).trans (hslot.trans (if_neg hl))
    · exact (hreads (p := (·.shade)) (fun _ _ => rfl) (fun _ _ => rfl)).trans hshade
    · exact completed_last (s := withEventClosed (beginAnswer s)) hlast (congrArg WebMap.ring hring)
    · exact congrArg WebMap.ring hring
    · exact congrArg WebMap.extent hring
    · exact (hcount m).trans (hseen hs m)
    · exact (hcount m).trans (hunseen hs m)
    · exact (hreads (p := (·.rolls.knifeReg)) (fun _ _ => rfl) (fun _ _ => rfl)).trans (hknife hc hn)

end Sys2Proof.Machine

/-! Arbitration: what one run of it leaves, in the terms of R166 and R168. -/

namespace Sys2Proof.Machine

open Sys2Proof

theorem nothingAbove_iff {u : SpeedUnit} {n : Nat} : nothingAbove u n = true ↔ ∀ k, eligible u k = true → slotLevel u k ≤ n := by
  simp only [nothingAbove, List.all_eq_true, Bool.or_eq_true, Bool.not_eq_true', decide_eq_true_eq]
  constructor
  · intro h k hk
    rcases h k (mem_allSlots k) with he | hle
    · exact absurd (hk.symm.trans he) (by simp)
    · exact hle
  · intro h k _
    cases hk : eligible u k with
    | false => exact .inl rfl
    | true => exact .inr (h k hk)

/-- The slots stand in the list in their fixed order. -/
theorem allSlots_ordered : allSlots.Pairwise fun a b => slotPlace a ≤ slotPlace b := by decide

/-- The slot chosen afresh is the eligible one of greatest level, the first in the fixed order among equals (R166 step 2). -/
theorem chooseAfresh_chosen (u : SpeedUnit) : ChosenAfresh u (chooseAfresh u) := by
  unfold ChosenAfresh
  split
  · next hnone =>
    intro k
    by_contra hk
    have hk : eligible u k = true := by simpa using hk
    obtain ⟨m, hm, hmax⟩ := Finset.exists_max_image (allSlots.filter (eligible u)).toFinset (slotLevel u)
      ⟨k, by simp [mem_allSlots, hk]⟩
    simp only [List.mem_toFinset, List.mem_filter, mem_allSlots, true_and] at hm hmax
    have hnot := List.find?_eq_none.mp hnone m (mem_allSlots m)
    exact hnot (by rw [hm, nothingAbove_iff.mpr hmax]; rfl)
  · next a ha =>
    obtain ⟨hpred, before, after, hsplit, hbefore⟩ := List.find?_eq_some_iff_append.mp ha
    obtain ⟨helig, habove⟩ := Bool.and_eq_true_iff.mp hpred
    have hle := nothingAbove_iff.mp habove
    refine ⟨helig, fun k hk => ?_⟩
    rcases Nat.lt_or_eq_of_le (hle k hk) with hlt | heq
    · exact .inl hlt
    · refine .inr ⟨heq, ?_⟩
      have hmem := mem_allSlots k
      rw [hsplit, List.mem_append, List.mem_cons] at hmem
      rcases hmem with hin | rfl | hin
      · have hfails := hbefore k hin
        rw [hk, heq, habove] at hfails
        exact absurd hfails (by decide)
      · exact Nat.le_refl _
      · have hord := allSlots_ordered
        rw [hsplit] at hord
        exact (List.pairwise_cons.mp (List.pairwise_append.mp hord).2.1).1 k hin

/-- What an arbitration chooses rests on the slots and the gate alone. -/
theorem ChosenAfresh.congr {u v : SpeedUnit} {a : Option Slot} (hs : v.slots = u.slots) (hg : v.gateOpen = u.gateOpen)
    (h : ChosenAfresh u a) : ChosenAfresh v a := by
  have he := eligible_congr hs hg
  have hl : slotLevel v = slotLevel u := by funext k; simp [slotLevel, hs]
  unfold ChosenAfresh at h ⊢
  rwa [he, hl]

/-- One run of arbitration from `u`, whose changed slots stand in `v`, when the run is told whether the ACTIVE claim was lowered
(R166, R168). -/
theorem runsArbitration_arbitrate {u v : SpeedUnit} {lowered : Bool} (hact : v.active = u.active)
    (hlow : ∀ a, u.active = some a → eligible v a = true → (lowered = true ↔ slotLevel v a < slotLevel u a)) :
    RunsArbitration u (arbitrate lowered v) := by
  have hslots : (arbitrate lowered v).slots = v.slots := arbitrate_slots _ _
  have helig : eligible (arbitrate lowered v) = eligible v := eligible_congr hslots (arbitrate_gate _ _)
  have hlevel : slotLevel (arbitrate lowered v) = slotLevel v := by funext k; simp [slotLevel]
  have hgranted : (arbitrate lowered v).granted = grantedSpeed (arbitrate lowered v) := by
    unfold arbitrate
    split <;> rfl
  have hactive : (arbitrate lowered v).active = if activeKeeps v lowered then v.active else chooseAfresh v := by
    unfold arbitrate
    split <;> rfl
  have hkeeps (a : Slot) (ha : u.active = some a) : activeKeeps v lowered = true ↔
      eligible v a = true ∧ slotLevel u a ≤ slotLevel v a ∧ ∀ k, eligible v k = true → slotLevel v k ≤ slotLevel v a := by
    simp only [activeKeeps, hact, ha, Bool.and_eq_true, Bool.not_eq_true', nothingAbove_iff, and_assoc]
    refine and_congr_right fun he => and_congr_left fun _ => ?_
    rw [← Bool.not_eq_true, hlow a ha he, Nat.not_lt]
  refine ⟨fun a ha he hle hmax => ?_, fun hnot => ?_, fun hnone => ?_, fun a c ha hc => ?_⟩
  · rw [helig] at he
    rw [hlevel] at hle
    rw [helig, hlevel] at hmax
    rw [hactive, if_pos ((hkeeps a ha).mpr ⟨he, hle, hmax⟩), hact, ha]
  · have hno : ¬activeKeeps v lowered = true := by
      cases ha : u.active with
      | none => simp [activeKeeps, hact, ha]
      | some a =>
        have hnot := hnot a ha
        rwa [helig, hlevel, ← hkeeps a ha] at hnot
    rw [hactive, if_neg hno]
    exact (chooseAfresh_chosen v).congr hslots (arbitrate_gate _ _)
  · rw [hgranted, grantedSpeed, hnone]
    rfl
  · rw [hgranted, grantedSpeed, ha, Option.bind_some, hc]

theorem slotLevel_set_other {u : SpeedUnit} {k a : Slot} (h : a ≠ k) (c : Option ClaimValue) :
    slotLevel { u with slots := u.slots.set k c } a = slotLevel u a := by
  simp only [slotLevel, PerSlot.get_set_other _ _ _ _ h]

theorem slotLevel_set_same (u : SpeedUnit) (k : Slot) (c : Option ClaimValue) :
    slotLevel { u with slots := u.slots.set k c } k = (c.map (·.level)).getD 0 := by
  simp only [slotLevel, PerSlot.get_set_same]

/-- A change of one slot runs one arbitration (R160, R166). -/
theorem changeSlot_runs (k : Slot) (c : Option ClaimValue) (u : SpeedUnit) : RunsArbitration u (changeSlot k c u) := by
  refine runsArbitration_arbitrate rfl fun a ha _ => ?_
  by_cases hk : a = k
  · subst hk
    rw [slotLevel_set_same, Bool.and_eq_true]
    simp [ha]
  · rw [slotLevel_set_other hk]
    simp [ha, hk]

theorem changeSlot_settings (k : Slot) (c : Option ClaimValue) (u : SpeedUnit) : SettingsKept u (changeSlot k c u) :=
  ⟨arbitrate_gate _ _, arbitrate_run _ _, arbitrate_crawl _ _⟩

/-- The release of the internal claims is one change with one arbitration (R173). -/
theorem releaseInternal_runs (u : SpeedUnit) : RunsArbitration u (releaseInternal u) := by
  refine runsArbitration_arbitrate rfl fun a _ he => ?_
  have hlevel : slotLevel { u with slots := ((u.slots.set .ref none).set .reg none).set .label none } a = slotLevel u a := by
    cases a
    case ref | reg | label => exact Bool.noConfusion (he : false = true)
    all_goals rfl
  rw [hlevel]
  simp

end Sys2Proof.Machine

/-! Line Reset's closes: what one close does, and what a run of closes adds up to (R105, R118, R148, R150). -/

namespace Sys2Proof.Machine

open Sys2Proof

/-! ### Notices raised a number of times -/

theorem RaisedTimes.zero {k : NoticeKind} {s t : State} (h : NotRaised k s t) : RaisedTimes 0 k s t := fun m => by simpa using h m

theorem RaisedTimes.one {k : NoticeKind} {s t : State} (h : RaisedOnce k s t) : RaisedTimes 1 k s t := fun m => by simpa using h m

theorem RaisedTimes.trans {k : NoticeKind} {s t u : State} {a b : Nat} (h : RaisedTimes a k s t) (hm : t.link.masks = s.link.masks)
    (h' : RaisedTimes b k t u) : RaisedTimes (a + b) k s u := by
  intro m
  have h1 := h m
  have h2 := h' m
  rw [hm] at h2
  rw [h2, h1]
  cases (s.link.masks.get m).get k
  · simp
  · simp only [and_true, ne_eq]
    split_ifs <;> omega

/-! ### One close -/

/-- A SCRAP roll is graded REJECT, with nothing else changed (R132, R133). -/
theorem gradeRoll_scrap {e : HistoryEntry} (hk : e.kind = .scrap) (hg : e.grade = .reject) (s : State) :
    (gradeRoll e s).2 = s ∧ (gradeRoll e s).1.kind = .scrap ∧ (gradeRoll e s).1.reason = e.reason ∧ (gradeRoll e s).1.grade = .reject := by
  simp only [gradeRoll]
  cases jobOf e.job s with
  | none => exact ⟨rfl, hk, rfl, hg⟩
  | some j => simp [gradeChecks, rejectKind, hk]

/-- What the close of one roll at Line Reset does, with `e` its history entry (R105, R118, R148, R150). -/
structure ClosesOne (e : HistoryEntry) (s t : State) : Prop where
  entry : e.kind = .scrap ∧ e.reason = .lineReset ∧ e.grade = .reject
  shade : t.shade = s.shade
  history : t.rolls.history = joinHistory e s.rolls.history
  queued : s.labels.queue.length < 16 → e.labelState = .queued ∧ t.labels.queue = s.labels.queue ++ [labelOf e .first]
  missed : 16 ≤ s.labels.queue.length → e.labelState = .missed ∧ t.labels.queue = s.labels.queue
  claimed : 14 ≤ t.labels.queue.length → s.labels.claimHeld = false → t.labels.claimHeld = true
    ∧ t.speed = changeSlot .label (some { level := 3, speed := s.speed.crawlSpeed }) s.speed
  unclaimed : t.labels.queue.length < 14 ∨ s.labels.claimHeld = true → t.labels.claimHeld = s.labels.claimHeld ∧ t.speed = s.speed
  raises : RaisesOnly [.rollClosed, .labelReady, .labelOverrun] s t
  closed : RaisedTimes 1 .rollClosed s t
  overrun : RaisedTimes (if s.labels.queue.length < 16 then 0 else 1) .labelOverrun s t
  ready : RaisedTimes (if s.labels.queue = [] then 1 else 0) .labelReady s t

theorem queueLabel_of_room {s : State} (h : s.labels.queue.length < 16) (r : LabelRecord) :
    (queueLabel r s).1 = .queued ∧ (queueLabel r s).2.labels = { s.labels with queue := s.labels.queue ++ [r] }
      ∧ (queueLabel r s).2.link = (if s.labels.queue = [] then raiseNotice .labelReady s else s).link := by
  have h' : s.labels.queue.length < Config.labelMax := h
  simp only [queueLabel, h', if_true, true_and]
  split <;> exact ⟨rfl, rfl⟩

theorem queueLabel_of_full {s : State} (h : 16 ≤ s.labels.queue.length) (r : LabelRecord) :
    queueLabel r s = (.missed, raiseNotice .labelOverrun s) := by
  have h' : ¬s.labels.queue.length < Config.labelMax := Nat.not_lt.mpr h
  simp only [queueLabel, h', if_false]

/-- The LABEL claim is raised at a depth of 14 or more when it is not held (R150). -/
theorem claimAfterClose_claimed {s : State} (h : 14 ≤ s.labels.queue.length) (hc : s.labels.claimHeld = false) :
    (claimAfterClose s).labels.claimHeld = true
      ∧ (claimAfterClose s).speed = changeSlot .label (some { level := 3, speed := s.speed.crawlSpeed }) s.speed := by
  unfold claimAfterClose
  rw [if_pos ⟨h, hc⟩]
  exact ⟨rfl, rfl⟩

theorem claimAfterClose_unclaimed {s : State} (h : s.labels.queue.length < 14 ∨ s.labels.claimHeld = true) : claimAfterClose s = s := by
  unfold claimAfterClose
  rw [if_neg]
  rintro ⟨hlen, hheld⟩
  have hlen : 14 ≤ s.labels.queue.length := hlen
  rcases h with h | h
  · omega
  · exact absurd (h.symm.trans hheld) (by decide)

/-- The history entry of a lane's open roll closed at Line Reset, before its label (R105, R118). -/
def scrapEntry (l : Lane) (s : State) : HistoryEntry :=
  { (gradeRoll (entryOf l .scrap .lineReset (s.rolls.lanes.get l).roll) s).1 with
    pattern := ((jobOf (gradeRoll (entryOf l .scrap .lineReset (s.rolls.lanes.get l).roll) s).1.job s).map (·.pattern)).getD [] }

/-- The state of a close after its label and the LABEL claim, with the lane emptied and the roll in the history, before ROLL_CLOSED. -/
def scrapJoined (l : Lane) (s : State) : State :=
  setLane l
    { s.rolls.lanes.get l with roll := OpenRoll.empty (s.rolls.knifeJob.map (·.number)), lastClosed := (s.rolls.lanes.get l).roll.rollId }
    ((claimAfterClose (queueLabel (labelOf (scrapEntry l s) .first) s).2).withRolls { s.rolls with
      history := joinHistory { scrapEntry l s with labelState := (queueLabel (labelOf (scrapEntry l s) .first) s).1 } s.rolls.history })

/-- A close at Line Reset is the label, the LABEL claim, the history and ROLL_CLOSED, with the lane emptied (R105). -/
theorem closeRoll_scrap (l : Lane) (s : State) : closeRoll l .scrap .lineReset s = raiseNotice .rollClosed (scrapJoined l s) := by
  have hgrade := (gradeRoll_scrap (e := entryOf l .scrap .lineReset (s.rolls.lanes.get l).roll) rfl rfl s).1
  simp only [closeRoll, hgrade, State.withRolls_rolls, claimAfterClose_rolls, queueLabel_rolls]
  rfl

theorem RaisesOnly.times_zero {K : List NoticeKind} {k : NoticeKind} {s t : State} (h : RaisesOnly K s t) (hk : k ∉ K) :
    RaisedTimes 0 k s t := .zero (h.others k hk)

theorem RaisedTimes.of_link {k : NoticeKind} {n : Nat} {s t u : State} (h : RaisedTimes n k s t) (hl : u.link = t.link) :
    RaisedTimes n k s u := fun m => by rw [← h m]; simp only [pendingCount, hl]

/-- What the queueing of a label raises (R148). -/
theorem queueLabel_raises (r : LabelRecord) (s : State) :
    RaisesOnly [.labelReady, .labelOverrun] s (queueLabel r s).2
      ∧ RaisedTimes (if s.labels.queue.length < 16 then 0 else 1) .labelOverrun s (queueLabel r s).2
      ∧ RaisedTimes (if s.labels.queue = [] then 1 else 0) .labelReady s (queueLabel r s).2 := by
  have hready (u : State) : RaisesOnly [.labelReady] u (raiseNotice .labelReady u) := .raiseNotice (by simp) u
  have hover (u : State) : RaisesOnly [.labelOverrun] u (raiseNotice .labelOverrun u) := .raiseNotice (by simp) u
  by_cases hroom : s.labels.queue.length < 16
  · obtain ⟨-, -, hlink⟩ := queueLabel_of_room hroom r
    have hsame {K : List NoticeKind} {t : State} (h : RaisesOnly K s t) (hl : (queueLabel r s).2.link = t.link) :
        RaisesOnly K s (queueLabel r s).2 := h.trans (.of_link hl)
    rw [if_pos hroom]
    by_cases hempty : s.labels.queue = []
    · rw [if_pos hempty] at hlink ⊢
      have hr := hsame (hready s) hlink
      exact ⟨hr.mono (by simp), hr.times_zero (by simp), (RaisedTimes.one (.of_raise .labelReady s)).of_link hlink⟩
    · rw [if_neg hempty] at hlink ⊢
      have hr := hsame (K := []) (.refl _ s) hlink
      exact ⟨hr.mono (by simp), hr.times_zero (by simp), hr.times_zero (by simp)⟩
  · rw [queueLabel_of_full (Nat.not_lt.mp hroom), if_neg hroom, if_neg (by rintro h; simp [h] at hroom)]
    exact ⟨(hover s).mono (by simp), .one (.of_raise .labelOverrun s), (hover s).times_zero (by simp)⟩

theorem scrapJoined_link (l : Lane) (s : State) :
    (scrapJoined l s).link = (queueLabel (labelOf (scrapEntry l s) .first) s).2.link := claimAfterClose_link _

theorem scrapJoined_labels (l : Lane) (s : State) :
    (scrapJoined l s).labels = (claimAfterClose (queueLabel (labelOf (scrapEntry l s) .first) s).2).labels := rfl

theorem scrapJoined_speed (l : Lane) (s : State) :
    (scrapJoined l s).speed = (claimAfterClose (queueLabel (labelOf (scrapEntry l s) .first) s).2).speed := rfl

theorem scrapJoined_shade (l : Lane) (s : State) : (scrapJoined l s).shade = s.shade :=
  (claimAfterClose_shade _).trans (queueLabel_shade _ _)

theorem scrapJoined_history (l : Lane) (s : State) : (scrapJoined l s).rolls.history = joinHistory
    { scrapEntry l s with labelState := (queueLabel (labelOf (scrapEntry l s) .first) s).1 } s.rolls.history := rfl

theorem scrapEntry_scrap (l : Lane) (s : State) :
    (scrapEntry l s).kind = .scrap ∧ (scrapEntry l s).reason = .lineReset ∧ (scrapEntry l s).grade = .reject :=
  (gradeRoll_scrap (e := entryOf l .scrap .lineReset (s.rolls.lanes.get l).roll) rfl rfl s).2

/-- The queueing of a label leaves the LABEL claim to what follows. -/
theorem queueLabel_claimHeld (r : LabelRecord) (s : State) : (queueLabel r s).2.labels.claimHeld = s.labels.claimHeld := by
  by_cases hroom : s.labels.queue.length < 16
  · rw [(queueLabel_of_room hroom _).2.1]
  · rw [queueLabel_of_full (Nat.not_lt.mp hroom), raiseNotice_labels]

/-- The label of a roll, and the queue after it (R148). -/
theorem queueLabel_queue (r : LabelRecord) (s : State) :
    (s.labels.queue.length < 16 → (queueLabel r s).1 = .queued ∧ (queueLabel r s).2.labels.queue = s.labels.queue ++ [r])
      ∧ (16 ≤ s.labels.queue.length → (queueLabel r s).1 = .missed ∧ (queueLabel r s).2.labels.queue = s.labels.queue) := by
  refine ⟨fun hroom => ?_, fun hfull => ?_⟩
  · obtain ⟨hstate, hlabels, -⟩ := queueLabel_of_room hroom r
    exact ⟨hstate, by rw [hlabels]⟩
  · rw [queueLabel_of_full hfull, raiseNotice_labels]
    exact ⟨rfl, rfl⟩

theorem closesOne_closeRoll (l : Lane) (s : State) :
    ClosesOne { scrapEntry l s with labelState := (queueLabel (labelOf (scrapEntry l s) .first) s).1 } s
      (closeRoll l .scrap .lineReset s) := by
  obtain ⟨hr, hover, hready⟩ := queueLabel_raises (labelOf (scrapEntry l s) .first) s
  obtain ⟨hroom, hfull⟩ := queueLabel_queue (labelOf (scrapEntry l s) .first) s
  have hheld := queueLabel_claimHeld (labelOf (scrapEntry l s) .first) s
  have hspeed := queueLabel_speed (labelOf (scrapEntry l s) .first) s
  have hlabels := scrapJoined_labels l s
  have hspeed' := scrapJoined_speed l s
  have hhistory := scrapJoined_history l s
  have hlink := scrapJoined_link l s
  have hshade := scrapJoined_shade l s
  have hentry := scrapEntry_scrap l s
  have hlabel (st : LabelState) : labelOf { scrapEntry l s with labelState := st } .first = labelOf (scrapEntry l s) .first := rfl
  rw [closeRoll_scrap]
  generalize queueLabel (labelOf (scrapEntry l s) .first) s = q at *
  generalize scrapJoined l s = t at *
  have hraise : RaisesOnly [.rollClosed] t (raiseNotice .rollClosed t) := .raiseNotice (by simp) _
  have hj : RaisesOnly [.labelReady, .labelOverrun] s t := hr.trans (.of_link hlink)
  have hqueue : t.labels.queue = q.2.labels.queue := by rw [hlabels, claimAfterClose_queue]
  constructor
  case entry => exact hentry
  case shade => rw [raiseNotice_shade, hshade]
  case history => rw [raiseNotice_rolls, hhistory]
  case queued =>
    intro h
    rw [raiseNotice_labels, hqueue, hlabel]
    exact hroom h
  case missed =>
    intro h
    rw [raiseNotice_labels, hqueue]
    exact hfull h
  case claimed =>
    rw [raiseNotice_labels, raiseNotice_speed, hqueue, hlabels, hspeed', ← hheld, ← hspeed]
    exact claimAfterClose_claimed
  case unclaimed =>
    rw [raiseNotice_labels, raiseNotice_speed, hqueue, hlabels, hspeed', ← hheld, ← hspeed]
    intro h
    rw [claimAfterClose_unclaimed h]
    exact ⟨rfl, rfl⟩
  case raises => exact (hj.mono (by simp)).trans (hraise.mono (by simp))
  case closed => simpa using (hj.times_zero (k := .rollClosed) (by simp)).trans hj.masks (.one (.of_raise .rollClosed _))
  case overrun => simpa using (hover.of_link hlink).trans hj.masks (hraise.times_zero (by simp))
  case ready => simpa using (hready.of_link hlink).trans hj.masks (hraise.times_zero (by simp))

theorem RaisedTimes.of_start {k : NoticeKind} {n : Nat} {s s' t : State} (h : RaisedTimes n k s' t) (hl : s'.link = s.link) :
    RaisedTimes n k s t := fun m => by
  rw [h m]
  simp only [pendingCount, hl]

/-- A close is the same from a state that differs in what it does not read. -/
theorem ClosesOne.of_start {e : HistoryEntry} {s s' t : State} (h : ClosesOne e s' t) (hsh : s'.shade = s.shade)
    (hh : s'.rolls.history = s.rolls.history) (hlab : s'.labels = s.labels) (hsp : s'.speed = s.speed) (hl : s'.link = s.link) :
    ClosesOne e s t where
  entry := h.entry
  shade := h.shade.trans hsh
  history := hh ▸ h.history
  queued := hlab ▸ h.queued
  missed := hlab ▸ h.missed
  claimed := by rw [← hlab, ← hsp]; exact h.claimed
  unclaimed := by rw [← hlab, ← hsp]; exact h.unclaimed
  raises := (RaisesOnly.of_link hl).trans h.raises
  closed := h.closed.of_start hl
  overrun := by rw [← hlab]; exact h.overrun.of_start hl
  ready := by rw [← hlab]; exact h.ready.of_start hl

/-- A roll that holds repeats is closed as one close; the id that it may take first is none of a close's business (R99, R118). -/
theorem closesOne_closeAtLineReset {l : Lane} {s : State} (h : (s.rolls.lanes.get l).roll.repeats ≠ 0) :
    ∃ e, ClosesOne e s (closeAtLineReset s l) := by
  have hhist : (takeRollId l s).rolls.history = s.rolls.history := by
    simp only [takeRollId]
    split <;> rfl
  have heq : closeAtLineReset s l = closeRoll l .scrap .lineReset (takeRollId l s) := if_neg h
  rw [heq]
  exact ⟨_, (closesOne_closeRoll l (takeRollId l s)).of_start (by simp) hhist (by simp) (by simp) (by simp)⟩

/-! ### A run of closes -/

/-- The closes of the rolls with the history entries `es`, one after another. -/
def ClosesAll : List HistoryEntry → State → State → Prop
  | [], s, t => t = s
  | e :: es, s, t => ∃ u, ClosesOne e s u ∧ ClosesAll es u t

theorem ClosesAll.entries {es : List HistoryEntry} {s t : State} (h : ClosesAll es s t) :
    ∀ e ∈ es, e.kind = .scrap ∧ e.reason = .lineReset ∧ e.grade = .reject := by
  induction es generalizing s with
  | nil => simp
  | cons e es ih =>
    obtain ⟨u, hone, hrest⟩ := h
    exact List.forall_mem_cons.mpr ⟨hone.entry, ih hrest⟩

theorem ClosesAll.shade {es : List HistoryEntry} {s t : State} (h : ClosesAll es s t) : t.shade = s.shade := by
  induction es generalizing s with
  | nil => rw [h]
  | cons e es ih =>
    obtain ⟨u, hone, hrest⟩ := h
    rw [ih hrest, hone.shade]

theorem ClosesAll.raises {es : List HistoryEntry} {s t : State} (h : ClosesAll es s t) :
    RaisesOnly [.rollClosed, .labelReady, .labelOverrun] s t := by
  induction es generalizing s with
  | nil => rw [show t = s from h]; exact .refl _ s
  | cons e es ih =>
    obtain ⟨u, hone, hrest⟩ := h
    exact hone.raises.trans (ih hrest)

theorem ClosesAll.closed {es : List HistoryEntry} {s t : State} (h : ClosesAll es s t) : RaisedTimes es.length .rollClosed s t := by
  induction es generalizing s with
  | nil => rw [show t = s from h]; exact .zero (.refl _ s)
  | cons e es ih =>
    obtain ⟨u, hone, hrest⟩ := h
    rw [List.length_cons, Nat.add_comm]
    exact hone.closed.trans hone.raises.masks (ih hrest)

/-- The history keeps the newest 64 (R105, R108). -/
theorem joinHistory_eq {e : HistoryEntry} {h : List HistoryEntry} (hh : h.length ≤ 64) : joinHistory e h = (h ++ [e]).drop (h.length + 1 - 64) := by
  have hmax : Config.historyMax = 64 := rfl
  unfold joinHistory
  rw [hmax]
  split
  · next hfull =>
    rw [show h.length + 1 - 64 = 1 by omega, List.drop_append_of_le_length (by omega)]
  · rw [show h.length + 1 - 64 = 0 by omega, List.drop_zero]

theorem ClosesAll.history {es : List HistoryEntry} {s t : State} (h : ClosesAll es s t) (hs : s.rolls.history.length ≤ 64) :
    t.rolls.history = (s.rolls.history ++ es).drop (s.rolls.history.length + es.length - 64) := by
  induction es generalizing s with
  | nil =>
    rw [show t = s from h, List.append_nil, List.length_nil, Nat.add_zero, show s.rolls.history.length - 64 = 0 by omega, List.drop_zero]
  | cons e es ih =>
    obtain ⟨u, hone, hrest⟩ := h
    have hu : u.rolls.history = (s.rolls.history ++ [e]).drop (s.rolls.history.length + 1 - 64) :=
      hone.history.trans (joinHistory_eq hs)
    have hlen : u.rolls.history.length = s.rolls.history.length + 1 - (s.rolls.history.length + 1 - 64) := by simp [hu]
    rw [ih hrest (by omega), hu, List.length_drop, List.length_append, List.length_singleton, List.length_cons,
      ← List.drop_append_of_le_length (by rw [List.length_append, List.length_singleton]; omega), List.drop_drop, List.append_assoc, List.singleton_append]
    congr 1
    omega

/-- The labels of a run of closes: the first have a place in the queue, the others are MISSED (R148). -/
theorem ClosesAll.labels {es : List HistoryEntry} {s t : State} (h : ClosesAll es s t) (hs : s.labels.queue.length ≤ 16) :
    (∀ e ∈ es.take (16 - s.labels.queue.length), e.labelState = .queued)
      ∧ (∀ e ∈ es.drop (16 - s.labels.queue.length), e.labelState = .missed)
      ∧ t.labels.queue = s.labels.queue ++ (es.take (16 - s.labels.queue.length)).map (fun e => labelOf e .first)
      ∧ RaisedTimes (es.length - (16 - s.labels.queue.length)) .labelOverrun s t := by
  induction es generalizing s with
  | nil => rw [show t = s from h]; exact ⟨by simp, by simp, by simp, by simpa using .zero (.refl _ s)⟩
  | cons e es ih =>
    obtain ⟨u, hone, hrest⟩ := h
    by_cases hroom : s.labels.queue.length < 16
    · obtain ⟨hstate, hqueue⟩ := hone.queued hroom
      have hlen : u.labels.queue.length = s.labels.queue.length + 1 := by simp [hqueue]
      obtain ⟨h1, h2, h3, h4⟩ := ih hrest (by omega)
      obtain ⟨k, hk⟩ : ∃ k, 16 - s.labels.queue.length = k + 1 := ⟨16 - s.labels.queue.length - 1, by omega⟩
      have hk' : 16 - u.labels.queue.length = k := by omega
      rw [hk'] at h1 h2 h3 h4
      rw [hk, List.take_succ_cons, List.drop_succ_cons]
      refine ⟨List.forall_mem_cons.mpr ⟨hstate, h1⟩, h2, ?_, ?_⟩
      · rw [h3, hqueue, List.map_cons, List.append_assoc, List.singleton_append]
      · have hover := hone.overrun
        rw [if_pos hroom] at hover
        simpa using hover.trans hone.raises.masks h4
    · have hfull : s.labels.queue.length = 16 := by omega
      obtain ⟨hstate, hqueue⟩ := hone.missed hfull.ge
      obtain ⟨h1, h2, h3, h4⟩ := ih hrest (by rw [hqueue]; exact hs)
      rw [hqueue, hfull] at h2 h3 h4
      have hover := hone.overrun
      rw [if_neg hroom] at hover
      rw [hfull]
      refine ⟨by simp, List.forall_mem_cons.mpr ⟨hstate, h2⟩, h3, ?_⟩
      have hsum := hover.trans hone.raises.masks h4
      rw [Nat.add_comm] at hsum
      exact hsum

/-- LABEL_READY is raised when the queue held nothing and a roll closes (R148). -/
theorem ClosesAll.ready {es : List HistoryEntry} {s t : State} (h : ClosesAll es s t) :
    RaisedTimes (if s.labels.queue = [] ∧ es.length ≠ 0 then 1 else 0) .labelReady s t := by
  induction es generalizing s with
  | nil => rw [show t = s from h]; simpa using .zero (.refl _ s)
  | cons e es ih =>
    obtain ⟨u, hone, hrest⟩ := h
    have hne : u.labels.queue ≠ [] := by
      by_cases hroom : s.labels.queue.length < 16
      · simp [(hone.queued hroom).2]
      · rw [(hone.missed (Nat.not_lt.mp hroom)).2]
        intro hnil
        simp [hnil] at hroom
    have hlater := ih hrest
    rw [if_neg fun hc => hne hc.1] at hlater
    simpa using hone.ready.trans hone.raises.masks hlater

/-- A run of closes raises the LABEL claim at most once, at a depth of 14 or more (R150). -/
theorem ClosesAll.claim {es : List HistoryEntry} {s t : State} (h : ClosesAll es s t) (hs : s.labels.queue.length ≤ 16) :
    if s.labels.claimHeld = false ∧ 0 < es.length ∧ 14 ≤ min 16 (s.labels.queue.length + es.length) then
      t.speed = changeSlot .label (some { level := 3, speed := s.speed.crawlSpeed }) s.speed
    else t.speed = s.speed := by
  induction es generalizing s with
  | nil => rw [show t = s from h]; simp
  | cons e es ih =>
    obtain ⟨u, hone, hrest⟩ := h
    have hlen : u.labels.queue.length = min 16 (s.labels.queue.length + 1) := by
      by_cases hroom : s.labels.queue.length < 16
      · simp only [(hone.queued hroom).2, List.length_append, List.length_singleton]; omega
      · rw [(hone.missed (Nat.not_lt.mp hroom)).2]; omega
    have hlater := ih hrest (by omega)
    rw [List.length_cons]
    by_cases hclaim : 14 ≤ u.labels.queue.length ∧ s.labels.claimHeld = false
    · obtain ⟨hheld, hspeed⟩ := hone.claimed hclaim.1 hclaim.2
      rw [if_neg (by simp [hheld])] at hlater
      rw [if_pos ⟨hclaim.2, by omega, by omega⟩, hlater, hspeed]
    · obtain ⟨hheld, hspeed⟩ := hone.unclaimed (by
        rcases Nat.lt_or_ge u.labels.queue.length 14 with hlt | hge
        · exact .inl hlt
        · exact .inr (by simpa [hge] using hclaim))
      rw [hheld, hspeed] at hlater
      refine (iff_of_eq (if_congr ?_ rfl rfl)).mp hlater
      refine and_congr_right fun hc => ?_
      have hshallow : ¬14 ≤ u.labels.queue.length := fun hd => hclaim ⟨hd, hc⟩
      omega

end Sys2Proof.Machine

/-! Line Reset's closes over the lanes: which rolls close, and the roll ids that they take (R99, R118). -/

namespace Sys2Proof.Machine

open Sys2Proof

/-! ### One lane -/

theorem takeRollId_other {l x : Lane} (h : x ≠ l) (s : State) : (takeRollId l s).rolls.lanes.get x = s.rolls.lanes.get x := by
  simp only [takeRollId]
  split
  · rfl
  · exact PerLane.get_set_other _ _ _ _ h

theorem takeRollId_id (l : Lane) (s : State) : ((takeRollId l s).rolls.lanes.get l).roll.rollId
    = some ((s.rolls.lanes.get l).roll.rollId.getD s.rolls.nextRollId) := by
  simp only [takeRollId]
  split
  · next h =>
    obtain ⟨i, hi⟩ := Option.isSome_iff_exists.mp h
    rw [hi]
    rfl
  · next h =>
    rw [Option.not_isSome_iff_eq_none.mp h]
    simp

theorem closeAtLineReset_empty {l : Lane} {s : State} (h : (s.rolls.lanes.get l).roll.repeats = 0) : closeAtLineReset s l = s := if_pos h

theorem closeAtLineReset_open {l : Lane} {s : State} (h : (s.rolls.lanes.get l).roll.repeats ≠ 0) :
    closeAtLineReset s l = raiseNotice .rollClosed (scrapJoined l (takeRollId l s)) :=
  (if_neg h).trans (closeRoll_scrap l _)

theorem scrapJoined_other {l x : Lane} (h : x ≠ l) (s : State) : (scrapJoined l s).rolls.lanes.get x = s.rolls.lanes.get x := by
  simp only [scrapJoined, setLane]
  exact PerLane.get_set_other _ _ _ _ h

theorem scrapJoined_lastClosed (l : Lane) (s : State) :
    ((scrapJoined l s).rolls.lanes.get l).lastClosed = (s.rolls.lanes.get l).roll.rollId := by
  simp [scrapJoined, setLane]

theorem scrapJoined_nextRollId (l : Lane) (s : State) : (scrapJoined l s).rolls.nextRollId = s.rolls.nextRollId := rfl

/-- The close of one lane's roll leaves the other lanes. -/
theorem closeAtLineReset_other {l x : Lane} (h : x ≠ l) (s : State) :
    (closeAtLineReset s l).rolls.lanes.get x = s.rolls.lanes.get x := by
  by_cases hr : (s.rolls.lanes.get l).roll.repeats = 0
  · rw [closeAtLineReset_empty hr]
  · rw [closeAtLineReset_open hr, raiseNotice_rolls, scrapJoined_other h, takeRollId_other h]

/-- The last closed roll of a lane: its open roll's id, or the id that this takes first (R99, R105). -/
theorem closeAtLineReset_lastClosed (l : Lane) (s : State) : ((closeAtLineReset s l).rolls.lanes.get l).lastClosed =
    if (s.rolls.lanes.get l).roll.repeats = 0 then (s.rolls.lanes.get l).lastClosed
    else some ((s.rolls.lanes.get l).roll.rollId.getD s.rolls.nextRollId) := by
  split
  · next hr => rw [closeAtLineReset_empty hr]
  · next hr => rw [closeAtLineReset_open hr, raiseNotice_rolls, scrapJoined_lastClosed, takeRollId_id]

theorem closeAtLineReset_nextRollId (l : Lane) (s : State) : (closeAtLineReset s l).rolls.nextRollId =
    if takesIdAtReset s l then nextRollIdAfter s.rolls.nextRollId else s.rolls.nextRollId := by
  by_cases hr : (s.rolls.lanes.get l).roll.repeats = 0
  · rw [closeAtLineReset_empty hr]
    simp [takesIdAtReset, hr]
  · rw [closeAtLineReset_open hr, raiseNotice_rolls, scrapJoined_nextRollId]
    simp only [takeRollId]
    split
    · next hi => simp [takesIdAtReset, Option.isNone_iff_eq_none, Option.isSome_iff_ne_none.mp hi]
    · next hi => simp [takesIdAtReset, Option.not_isSome_iff_eq_none.mp hi, hr]

/-! ### The lanes in order -/

/-- A lane that is not closed is left. -/
theorem foldl_closeAtLineReset_other {l : Lane} {ls : List Lane} (h : l ∉ ls) (s : State) :
    (ls.foldl closeAtLineReset s).rolls.lanes.get l = s.rolls.lanes.get l := by
  induction ls generalizing s with
  | nil => rfl
  | cons x xs ih =>
    simp only [List.mem_cons, not_or] at h
    rw [List.foldl_cons, ih h.2, closeAtLineReset_other h.1]

/-- A count of lanes that rests on the lanes' records is the same after another lane's close. -/
theorem filter_lanes_congr {p : LaneRecord → Bool} {s t : State} {ls : List Lane}
    (h : ∀ l ∈ ls, t.rolls.lanes.get l = s.rolls.lanes.get l) :
    (ls.filter fun l => p (t.rolls.lanes.get l)) = ls.filter fun l => p (s.rolls.lanes.get l) :=
  List.filter_congr fun l hl => by rw [h l hl]

theorem closeAtLineReset_others {x : Lane} {xs : List Lane} (hx : x ∉ xs) (s : State) :
    ∀ l ∈ xs, (closeAtLineReset s x).rolls.lanes.get l = s.rolls.lanes.get l :=
  fun l hl => closeAtLineReset_other (by rintro rfl; exact hx hl) s

/-- The rolls that hold repeats close, one after another (R118). -/
theorem foldl_closesAll {ls : List Lane} (hnd : ls.Nodup) (s : State) :
    ∃ es, es.length = (ls.filter fun l => (s.rolls.lanes.get l).roll.repeats != 0).length
      ∧ ClosesAll es s (ls.foldl closeAtLineReset s) := by
  induction ls generalizing s with
  | nil => exact ⟨[], rfl, rfl⟩
  | cons x xs ih =>
    obtain ⟨hx, hxs⟩ := List.nodup_cons.mp hnd
    obtain ⟨es, hlen, hall⟩ := ih hxs (closeAtLineReset s x)
    rw [filter_lanes_congr (p := fun r => r.roll.repeats != 0) (closeAtLineReset_others hx s)] at hlen
    by_cases hr : (s.rolls.lanes.get x).roll.repeats = 0
    · rw [closeAtLineReset_empty hr] at hall
      exact ⟨es, by simp [hr, hlen], by rwa [List.foldl_cons, closeAtLineReset_empty hr]⟩
    · obtain ⟨e, he⟩ := closesOne_closeAtLineReset hr
      exact ⟨e :: es, by simp [hr, hlen], closeAtLineReset s x, he, hall⟩

/-- Each roll that takes an id takes the next one, in the order of the lanes (R99, R118). -/
theorem foldl_nextRollId {ls : List Lane} (hnd : ls.Nodup) (s : State) :
    (ls.foldl closeAtLineReset s).rolls.nextRollId = nextRollIdAfter^[(ls.filter (takesIdAtReset s)).length] s.rolls.nextRollId := by
  induction ls generalizing s with
  | nil => rfl
  | cons x xs ih =>
    obtain ⟨hx, hxs⟩ := List.nodup_cons.mp hnd
    have hfilter : xs.filter (takesIdAtReset (closeAtLineReset s x)) = xs.filter (takesIdAtReset s) :=
      filter_lanes_congr (p := fun r => r.roll.repeats != 0 && r.roll.rollId.isNone) (closeAtLineReset_others hx s)
    rw [List.foldl_cons, ih hxs, closeAtLineReset_nextRollId, hfilter, List.filter_cons]
    cases takesIdAtReset s x
    · rfl
    · rw [if_pos rfl, if_pos rfl, List.length_cons, Function.iterate_succ_apply]

/-- The roll id counter after `n` ids (R99). -/
theorem iterate_nextRollIdAfter (n : Nat) {first : Nat} (h1 : 1 ≤ first) (h2 : first ≤ 2 ^ 32 - 1) :
    nextRollIdAfter^[n] first = rollIdAfter n first := by
  have hmax : Config.max32 = 2 ^ 32 - 1 := rfl
  induction n with
  | zero =>
    simp only [Function.iterate_zero, id, rollIdAfter]
    omega
  | succ n ih =>
    rw [Function.iterate_succ_apply', ih, nextRollIdAfter, rollIdAfter, rollIdAfter, hmax]
    split <;> omega

theorem allLanes_nodup : allLanes.Nodup := by decide

/-- The lanes before a lane are those with a lower number. -/
theorem allLanes_split (l : Lane) :
    ∃ before after, allLanes = before ++ l :: after ∧ ∀ p, lanesBelow (laneNumber l) p = (before.filter p).length := by
  cases l
  case l0 => exact ⟨[], [.l1, .l2, .l3, .l4, .l5], rfl, fun p => by simp [lanesBelow, allLanes, laneNumber]⟩
  case l1 => exact ⟨[.l0], [.l2, .l3, .l4, .l5], rfl, fun p => by simp [lanesBelow, allLanes, laneNumber, List.filter_cons]⟩
  case l2 => exact ⟨[.l0, .l1], [.l3, .l4, .l5], rfl, fun p => by simp [lanesBelow, allLanes, laneNumber, List.filter_cons]⟩
  case l3 => exact ⟨[.l0, .l1, .l2], [.l4, .l5], rfl, fun p => by simp [lanesBelow, allLanes, laneNumber, List.filter_cons]⟩
  case l4 => exact ⟨[.l0, .l1, .l2, .l3], [.l5], rfl, fun p => by simp [lanesBelow, allLanes, laneNumber, List.filter_cons]⟩
  case l5 => exact ⟨[.l0, .l1, .l2, .l3, .l4], [], rfl, fun p => by simp [lanesBelow, allLanes, laneNumber, List.filter_cons]⟩

theorem lanesBelow_all (p : Lane → Bool) : lanesBelow 6 p = (allLanes.filter p).length := rfl

/-- The last closed roll of each lane after the closes (R99, R118). -/
theorem foldl_lastClosed (s : State) (l : Lane) : ((allLanes.foldl closeAtLineReset s).rolls.lanes.get l).lastClosed =
    if (s.rolls.lanes.get l).roll.repeats = 0 then (s.rolls.lanes.get l).lastClosed
    else some ((s.rolls.lanes.get l).roll.rollId.getD
      (nextRollIdAfter^[lanesBelow (laneNumber l) (takesIdAtReset s)] s.rolls.nextRollId)) := by
  obtain ⟨before, after, hsplit, hcount⟩ := allLanes_split l
  have hnd := allLanes_nodup
  rw [hsplit] at hnd
  obtain ⟨hbefore, hafter, hdisj⟩ := List.nodup_append.mp hnd
  have hl : l ∉ before := fun h => hdisj l h l List.mem_cons_self rfl
  have hkeep := foldl_closeAtLineReset_other hl s
  rw [hsplit, List.foldl_append, List.foldl_cons, foldl_closeAtLineReset_other (List.nodup_cons.mp hafter).1,
    closeAtLineReset_lastClosed, hkeep, foldl_nextRollId hbefore, hcount]

end Sys2Proof.Machine

/-! O40: Line Reset. -/

namespace Sys2Proof.Machine

open Sys2Proof

/-! ### The units after the closes (R37, R81, R95, R118, R173) -/

/-- What resetting the units raises: EMBOSS_CHANGE when the embosser moves (R93, R95). -/
theorem unitsReset_link (s : State) : (unitsReset s).link = (if s.emboss.state = .none then s else noteEmbossMove s).link := rfl

theorem unitsReset_raises (s : State) : RaisesOnly [.embossChange] s (unitsReset s) := by
  refine RaisesOnly.trans (t := if s.emboss.state = .none then s else noteEmbossMove s) ?_ (.of_link (unitsReset_link s))
  split
  · exact .refl _ s
  · unfold noteEmbossMove
    split
    · exact .refl _ s
    · exact (RaisesOnly.raiseNotice (by simp) s).trans (.of_link rfl)

/-- The embosser ends in NONE, with EMBOSS_CHANGE when it was elsewhere (R93, R95). -/
theorem unitsReset_embossNoticed {s : State} (h : s.model.embossNoticed = false) : EmbossNoticed s (unitsReset s) := by
  have hstate : (unitsReset s).emboss.state = .none := by
    simp only [unitsReset]
    split <;> rfl
  have hsame {k : NoticeKind} {n : Nat} {u : State} (hr : RaisedTimes n k s u) (hl : (unitsReset s).link = u.link) :
      RaisedTimes n k s (unitsReset s) := hr.of_link hl
  unfold EmbossNoticed
  rw [hstate]
  refine ⟨fun hne m => ?_, fun he m => ?_⟩
  · have hnote : noteEmbossMove s = (raiseNotice .embossChange s).withModel { s.model with embossNoticed := true } := by
      simp [noteEmbossMove, h]
    have hlink : (unitsReset s).link = (raiseNotice .embossChange s).link := by
      rw [unitsReset_link, if_neg (Ne.symm hne), hnote]
      rfl
    simpa using hsame (.one (.of_raise .embossChange s)) hlink m
  · have hlink : (unitsReset s).link = s.link := by rw [unitsReset_link, if_pos he.symm]
    simpa using hsame (.zero (.refl .embossChange s)) hlink m

theorem pathDiscarded_link (s : State) : (pathDiscarded s).link = s.link := rfl

theorem pathDiscarded_rolls (s : State) : (pathDiscarded s).rolls = s.rolls := rfl

theorem pathDiscarded_speed (s : State) : (pathDiscarded s).speed = s.speed := rfl

theorem pathDiscarded_labels (s : State) : (pathDiscarded s).labels = s.labels := rfl

theorem pathDiscarded_shade (s : State) : (pathDiscarded s).shade = shadeAtLineReset s.shade := rfl

theorem pathDiscarded_emboss (s : State) : (pathDiscarded s).emboss = s.emboss := rfl

theorem pathDiscarded_model (s : State) : (pathDiscarded s).model = s.model := rfl

theorem pathDiscarded_pins (s : State) : (pathDiscarded s).pins = s.pins := rfl

theorem pathDiscarded_map (s : State) : (pathDiscarded s).map = emptyMap := rfl

theorem pathDiscarded_register (s : State) : (pathDiscarded s).register = PerStation.tabulate fun _ => StationRecord.off := rfl

theorem pathDiscarded_jobs (s : State) : (pathDiscarded s).jobs =
    { s.jobs with staged := s.jobs.staged.map (fun j => { j with armed := false }), head := none, tail := none } := rfl

/-- The state after the closes of Line Reset. -/
def rollsClosedAt (s : State) : State := allLanes.foldl closeAtLineReset s

theorem lineReset_eq_rollsClosed (s : State) : lineReset s = unitsReset (pathDiscarded (rollsClosedAt s)) := lineReset_eq s

theorem unitsReset_jobs (s : State) : (unitsReset s).jobs = s.jobs := by
  simp only [unitsReset]
  split <;> simp

theorem unitsReset_register (s : State) : (unitsReset s).register = s.register := by
  simp only [unitsReset]
  split <;> simp

theorem unitsReset_map (s : State) : (unitsReset s).map = s.map := by
  simp only [unitsReset]
  split <;> simp

theorem unitsReset_shade (s : State) : (unitsReset s).shade = s.shade := by
  simp only [unitsReset]
  split <;> simp

theorem unitsReset_pins (s : State) : (unitsReset s).pins = s.pins := by
  simp only [unitsReset]
  split <;> simp

theorem unitsReset_emboss (s : State) : (unitsReset s).emboss = EmbossUnit.reset := by
  simp only [unitsReset]
  split <;> simp

theorem unitsReset_labels (s : State) : (unitsReset s).labels = { s.labels with claimHeld := false } := by
  simp only [unitsReset]
  split <;> simp

theorem unitsReset_speed (s : State) : (unitsReset s).speed = releaseInternal s.speed := by
  simp only [unitsReset]
  split <;> simp

theorem unitsReset_rolls (s : State) : (unitsReset s).rolls = { s.rolls with
    knifeJob := none, knifeReg := none
    lanes := PerLane.tabulate fun l => LaneRecord.idle none (s.rolls.lanes.get l).lastClosed } := by
  simp only [unitsReset]
  split <;> simp [lanesIdle]

theorem rollsClosedAt_jobs (s : State) : (rollsClosedAt s).jobs = s.jobs := foldl_keeps (·.jobs) _ (fun _ _ => closeAtLineReset_jobs _ _) _ _

theorem rollsClosedAt_pins (s : State) : (rollsClosedAt s).pins = s.pins := foldl_keeps (·.pins) _ (fun _ _ => closeAtLineReset_pins _ _) _ _

theorem rollsClosedAt_emboss (s : State) : (rollsClosedAt s).emboss = s.emboss :=
  foldl_keeps (·.emboss) _ (fun _ _ => closeAtLineReset_emboss _ _) _ _

theorem rollsClosedAt_model (s : State) : (rollsClosedAt s).model = s.model :=
  foldl_keeps (·.model) _ (fun _ _ => closeAtLineReset_model _ _) _ _

theorem releaseInternal_slots (u : SpeedUnit) :
    (releaseInternal u).slots = ((u.slots.set .ref none).set .reg none).set .label none := arbitrate_slots _ _

theorem releaseInternal_settings (u : SpeedUnit) : SettingsKept u (releaseInternal u) :=
  ⟨arbitrate_gate _ _, arbitrate_run _ _, arbitrate_crawl _ _⟩

/-! ### The event as a whole -/

/-- CLAIM_CHANGE is raised once for an event that changed the granted speed (R169). -/
theorem asEvent_claimChange {f : State → State} {s : State} (h : NotRaised .claimChange (withEventClosed s) (f (withEventClosed s)))
    (hmasks : (f (withEventClosed s)).link.masks = s.link.masks) :
    RaisedTimes (if (asEvent f s).speed.granted = s.speed.granted then 0 else 1) .claimChange s (asEvent f s) := by
  have hgranted : (asEvent f s).speed.granted = (f (withEventClosed s)).speed.granted :=
    asEvent_reads (p := (·.speed.granted)) (fun _ _ => rfl) (fun _ _ => rfl) f s
  have hclosed (u : State) (m : Master) : pendingCount m .claimChange (withEventClosed u) = pendingCount m .claimChange u := rfl
  have hf : NotRaised .claimChange s (f (withEventClosed s)) := fun m => (h m).trans (hclosed s m)
  rw [hgranted, asEvent_eq, grantNoticed]
  split
  · exact .zero fun m => (hclosed _ m).trans (hf m)
  · have hone := (RaisedTimes.one (.of_raise .claimChange (f (withEventClosed s))))
    have hsum := (RaisedTimes.zero hf).trans hmasks hone
    rw [Nat.zero_add] at hsum
    exact fun m => (hclosed _ m).trans (hsum m)

/-- A count of notices in an event, for a kind other than CLAIM_CHANGE, is that of its effect. -/
theorem asEvent_raisedTimes {k : NoticeKind} (hk : k ≠ .claimChange) {n : Nat} {f : State → State} {s : State}
    (h : RaisedTimes n k (withEventClosed s) (f (withEventClosed s))) : RaisedTimes n k s (asEvent f s) :=
  fun m => (asEvent_pendingCount hk m f s).trans (h m)

/-- LINE_RESET, taken and answered (R54). -/
theorem exec_lineReset {s : State} (hr : Ready s) (tag : Byte) : exec (.lineReset .line tag) s =
    .next (respond .line (requestCode .lineReset) tag { outcome := .ok, values := bytesOf 1 (openRollCount s) }
      (asEvent lineReset (beginAnswer s))) := by
  obtain ⟨hreset, hlisten, -⟩ := hr
  rw [exec_request_listening (r := .lineReset) rfl hreset hlisten]
  have hserve : (fun x => (serve .line .lineReset x).1) = lineReset := rfl
  have hanswer (u : State) : (serve .line .lineReset u).2 = { outcome := .ok, values := bytesOf 1 (openRollCount u) } := rfl
  have hpermit : permitted (requestName .lineReset) .line = true := rfl
  have hlength : requestLengthOk .lineReset = true := rfl
  have hafter (u : State) : afterRequest .lineReset u = u := rfl
  have hopen : openRollCount (beginAnswer s) = openRollCount s := rfl
  simp only [takeRequest, hserve, hanswer, hpermit, hlength, hafter, hopen, Bool.not_true, Bool.false_eq_true, if_false]
  rfl

/-- The effect of Line Reset raises the notices of its closes and of the embosser. -/
theorem lineReset_raises {es : List HistoryEntry} {s : State} (h : ClosesAll es s (rollsClosedAt s)) :
    RaisesOnly [.rollClosed, .labelReady, .labelOverrun, .embossChange] s (lineReset s) := by
  have hdiscard : RaisesOnly [.embossChange] (rollsClosedAt s) (pathDiscarded (rollsClosedAt s)) := .of_link (pathDiscarded_link _)
  rw [lineReset_eq_rollsClosed]
  exact (h.raises.mono (by simp)).trans ((hdiscard.trans (unitsReset_raises _)).mono (by simp))

/-- A kind of the closes is raised by Line Reset as by its closes. -/
theorem lineReset_raisedTimes {k : NoticeKind} (hk : k ≠ .embossChange) {n : Nat} {s : State} (h : RaisedTimes n k s (rollsClosedAt s))
    (hm : (rollsClosedAt s).link.masks = s.link.masks) : RaisedTimes n k s (lineReset s) := by
  have hdiscard : RaisesOnly [.embossChange] (rollsClosedAt s) (pathDiscarded (rollsClosedAt s)) := .of_link (pathDiscarded_link _)
  rw [lineReset_eq_rollsClosed]
  simpa using h.trans hm ((hdiscard.trans (unitsReset_raises _)).times_zero (by simpa using hk))

theorem lineReset_embossNoticed {es : List HistoryEntry} {s : State} (h : ClosesAll es s (rollsClosedAt s))
    (hc : s.model.embossNoticed = false) : EmbossNoticed s (lineReset s) := by
  have hcount (m : Master) : pendingCount m .embossChange (pathDiscarded (rollsClosedAt s)) = pendingCount m .embossChange s := by
    rw [← h.raises.others .embossChange (by simp) m]
    simp only [pendingCount, pathDiscarded_link]
  have hmasks : (pathDiscarded (rollsClosedAt s)).link.masks = s.link.masks := by rw [pathDiscarded_link, h.raises.masks]
  have hstate : (pathDiscarded (rollsClosedAt s)).emboss = s.emboss := by rw [pathDiscarded_emboss, rollsClosedAt_emboss]
  have hclear : (pathDiscarded (rollsClosedAt s)).model.embossNoticed = false := by rw [pathDiscarded_model, rollsClosedAt_model, hc]
  obtain ⟨honce, hnot⟩ := unitsReset_embossNoticed hclear
  rw [lineReset_eq_rollsClosed]
  rw [hstate] at honce hnot
  exact ⟨fun hne => .after hcount hmasks (honce hne), fun he => NotRaised.trans hcount (hnot he)⟩

/-- The path, the stations and the embosser after Line Reset (R37, R54, R81, R95). -/
theorem lineReset_path (s : State) : (lineReset s).map = emptyMap
    ∧ (lineReset s).jobs = { s.jobs with staged := s.jobs.staged.map (fun j => { j with armed := false }), head := none, tail := none }
    ∧ (∀ st, (lineReset s).register.get st = StationRecord.off) ∧ (lineReset s).emboss = EmbossUnit.reset ∧ (lineReset s).pins = s.pins := by
  rw [lineReset_eq_rollsClosed, unitsReset_map, unitsReset_jobs, unitsReset_register, unitsReset_emboss, unitsReset_pins,
    pathDiscarded_map, pathDiscarded_jobs, pathDiscarded_register, pathDiscarded_pins, rollsClosedAt_jobs, rollsClosedAt_pins]
  exact ⟨rfl, rfl, fun st => PerStation.get_tabulate _ _, rfl, rfl⟩

theorem lineReset_rolls (s : State) : (lineReset s).rolls = { (rollsClosedAt s).rolls with
    knifeJob := none, knifeReg := none
    lanes := PerLane.tabulate fun l => LaneRecord.idle none ((rollsClosedAt s).rolls.lanes.get l).lastClosed } := by
  rw [lineReset_eq_rollsClosed, unitsReset_rolls, pathDiscarded_rolls]

theorem lineReset_speed (s : State) : (lineReset s).speed = releaseInternal (rollsClosedAt s).speed := by
  rw [lineReset_eq_rollsClosed, unitsReset_speed, pathDiscarded_speed]

theorem lineReset_labels (s : State) : (lineReset s).labels = { (rollsClosedAt s).labels with claimHeld := false } := by
  rw [lineReset_eq_rollsClosed, unitsReset_labels, pathDiscarded_labels]

theorem lineReset_shade (s : State) : (lineReset s).shade = shadeAtLineReset (rollsClosedAt s).shade := by
  rw [lineReset_eq_rollsClosed, unitsReset_shade, pathDiscarded_shade]

/-- The last closed roll of each lane after Line Reset (R99, R118). -/
theorem lineReset_lane (s : State) (l : Lane) : (lineReset s).rolls.lanes.get l = LaneRecord.idle none
    (if (s.rolls.lanes.get l).roll.repeats = 0 then (s.rolls.lanes.get l).lastClosed
     else some ((s.rolls.lanes.get l).roll.rollId.getD
      (nextRollIdAfter^[lanesBelow (laneNumber l) (takesIdAtReset s)] s.rolls.nextRollId))) := by
  rw [lineReset_rolls, PerLane.get_tabulate, rollsClosedAt, foldl_lastClosed]

theorem lineReset_nextRollId (s : State) :
    (lineReset s).rolls.nextRollId = nextRollIdAfter^[lanesBelow 6 (takesIdAtReset s)] s.rolls.nextRollId := by
  rw [lineReset_rolls, lanesBelow_all, rollsClosedAt, foldl_nextRollId allLanes_nodup]

/-- When every open roll that holds repeats has its id, none is taken. -/
theorem lanesBelow_eq_zero {s : State} (h : ∀ l, (s.rolls.lanes.get l).roll.repeats ≠ 0 → (s.rolls.lanes.get l).roll.rollId.isSome = true)
    (n : Nat) : lanesBelow n (takesIdAtReset s) = 0 := by
  rw [lanesBelow, List.length_eq_zero_iff, List.filter_eq_nil_iff]
  intro l _
  by_cases hr : (s.rolls.lanes.get l).roll.repeats = 0
  · simp [takesIdAtReset, hr]
  · simp [takesIdAtReset, Option.isSome_iff_ne_none.mp (h l hr)]

/-- The claims that the closes of Line Reset leave: the LABEL slot filled at a depth of 14 or more, or every claim as it was (R150). -/
theorem closes_speed {es : List HistoryEntry} {s t : State} (h : ClosesAll es s t) (hs : s.labels.queue.length ≤ 16) :
    (∀ k, k ≠ .label → t.speed.slots.get k = s.speed.slots.get k) ∧ SettingsKept s.speed t.speed
      ∧ (if s.labels.claimHeld = false ∧ 0 < es.length ∧ 14 ≤ min 16 (s.labels.queue.length + es.length) then
          t.speed.slots = s.speed.slots.set .label (some { level := 3, speed := s.speed.crawlSpeed }) ∧ RunsArbitration s.speed t.speed
            ∧ SettingsKept s.speed t.speed
        else t.speed = s.speed) := by
  have hclaim := h.claim hs
  split at hclaim
  · next hc =>
    rw [if_pos hc, hclaim, changeSlot_slots]
    exact ⟨fun k hk => PerSlot.get_set_other _ _ _ _ hk, changeSlot_settings _ _ _, rfl, changeSlot_runs _ _ _, changeSlot_settings _ _ _⟩
  · next hc =>
    rw [if_neg hc, hclaim]
    exact ⟨fun _ _ => rfl, ⟨rfl, rfl, rfl⟩, rfl⟩

theorem take_min_length {α : Type} (es : List α) (k : Nat) : es.take (min es.length k) = es.take k := by
  rcases Nat.le_total es.length k with h | h
  · rw [Nat.min_eq_left h, List.take_length, List.take_of_length_le h]
  · rw [Nat.min_eq_right h]

theorem drop_min_length {α : Type} (es : List α) (k : Nat) : es.drop (min es.length k) = es.drop k := by
  rcases Nat.le_total es.length k with h | h
  · rw [Nat.min_eq_left h, List.drop_length, List.drop_of_length_le h]
  · rw [Nat.min_eq_right h]

section

variable {s t : State}

/-- The lanes after Line Reset: IDLE and empty, with the last closed roll's id (R99, R118). -/
theorem lanes_after_lineReset (h : t.rolls = (lineReset s).rolls) (l : Lane) :
    (t.rolls.lanes.get l).state = .idle ∧ (t.rolls.lanes.get l).roll = OpenRoll.empty none ∧ (t.rolls.lanes.get l).forced = false
      ∧ ((s.rolls.lanes.get l).roll.repeats = 0 → (t.rolls.lanes.get l).lastClosed = (s.rolls.lanes.get l).lastClosed)
      ∧ ((s.rolls.lanes.get l).roll.repeats ≠ 0 → (s.rolls.lanes.get l).roll.rollId.isSome = true →
          (t.rolls.lanes.get l).lastClosed = (s.rolls.lanes.get l).roll.rollId)
      ∧ (takesIdAtReset s l = true → 1 ≤ s.rolls.nextRollId → s.rolls.nextRollId ≤ 2 ^ 32 - 1 → (t.rolls.lanes.get l).lastClosed
          = some (rollIdAfter (lanesBelow (laneNumber l) (takesIdAtReset s)) s.rolls.nextRollId)) := by
  rw [h, lineReset_lane]
  refine ⟨rfl, rfl, rfl, fun hr => if_pos hr, fun hr hid => ?_, fun htakes h1 h2 => ?_⟩
  · obtain ⟨i, hi⟩ := Option.isSome_iff_exists.mp hid
    simp only [LaneRecord.idle, hi, if_neg hr, Option.getD_some]
  · simp only [takesIdAtReset, Bool.and_eq_true, bne_iff_ne, ne_eq, Option.isNone_iff_eq_none] at htakes
    obtain ⟨hr, hid⟩ := htakes
    rw [← iterate_nextRollIdAfter _ h1 h2]
    simp only [LaneRecord.idle, hid, if_neg hr, Option.getD_none]

/-- The roll id counter after Line Reset (R99). -/
theorem nextRollId_after_lineReset (h : t.rolls = (lineReset s).rolls) :
    ((∀ l, (s.rolls.lanes.get l).roll.repeats ≠ 0 → (s.rolls.lanes.get l).roll.rollId.isSome = true) →
        t.rolls.nextRollId = s.rolls.nextRollId)
      ∧ (1 ≤ s.rolls.nextRollId → s.rolls.nextRollId ≤ 2 ^ 32 - 1 →
        t.rolls.nextRollId = rollIdAfter (lanesBelow 6 (takesIdAtReset s)) s.rolls.nextRollId) := by
  rw [h, lineReset_nextRollId]
  refine ⟨fun hids => ?_, fun h1 h2 => iterate_nextRollIdAfter _ h1 h2⟩
  rw [lanesBelow_eq_zero hids]
  rfl

/-- The claims after Line Reset: those that the closes left, without the internal ones (R150, R173). -/
theorem claims_after_lineReset {es : List HistoryEntry} (hall : ClosesAll es s (rollsClosedAt s)) (hs : s.labels.queue.length ≤ 16)
    (h : t.speed = (lineReset s).speed) :
    t.speed.slots.get .ref = none ∧ t.speed.slots.get .reg = none ∧ t.speed.slots.get .label = none
      ∧ (∀ m, t.speed.slots.get (masterSlot m) = s.speed.slots.get (masterSlot m)) ∧ SettingsKept s.speed t.speed
      ∧ (∃ b : SpeedUnit,
          (if s.labels.claimHeld = false ∧ 0 < es.length ∧ 14 ≤ min 16 (s.labels.queue.length + es.length) then
              b.slots = s.speed.slots.set .label (some { level := 3, speed := s.speed.crawlSpeed }) ∧ RunsArbitration s.speed b
                ∧ SettingsKept s.speed b
            else b = s.speed)
          ∧ RunsArbitration b t.speed) := by
  obtain ⟨hslots, ⟨hgate, hrun, hcrawl⟩, hclaimed⟩ := closes_speed hall hs
  obtain ⟨hgate', hrun', hcrawl'⟩ := releaseInternal_settings (rollsClosedAt s).speed
  rw [h, lineReset_speed, releaseInternal_slots]
  generalize (rollsClosedAt s).speed = b at *
  refine ⟨rfl, rfl, rfl, fun m => ?_, ⟨hgate'.trans hgate, hrun'.trans hrun, hcrawl'.trans hcrawl⟩, _, hclaimed, releaseInternal_runs _⟩
  rw [← hslots (masterSlot m) (by cases m <;> simp [masterSlot])]
  cases m <;> rfl

/-- The history and the label queue after Line Reset (R105, R108, R148). -/
theorem history_after_lineReset {es : List HistoryEntry} (hall : ClosesAll es s (rollsClosedAt s)) (hh : s.rolls.history.length ≤ 64)
    (hs : s.labels.queue.length ≤ 16) (hr : t.rolls = (lineReset s).rolls) (hl : t.labels = (lineReset s).labels) :
    t.rolls.history = (s.rolls.history ++ es).drop (s.rolls.history.length + es.length - 64)
      ∧ (∀ e ∈ es.take (min es.length (16 - s.labels.queue.length)), e.labelState = .queued)
      ∧ (∀ e ∈ es.drop (min es.length (16 - s.labels.queue.length)), e.labelState = .missed)
      ∧ t.labels.queue = s.labels.queue ++ (es.take (min es.length (16 - s.labels.queue.length))).map (fun e => labelOf e .first) := by
  obtain ⟨hqueued, hmissed, hqueue, -⟩ := hall.labels hs
  have hhist := hall.history hh
  rw [take_min_length, drop_min_length, hr, hl, lineReset_labels, lineReset_rolls]
  generalize rollsClosedAt s = c at *
  exact ⟨hhist, hqueued, hmissed, hqueue⟩

/-- What is raised in an event of a request is raised from before it began to be answered. -/
theorem RaisedTimes.of_beginAnswer {k : NoticeKind} {n : Nat} (h : RaisedTimes n k (beginAnswer s) t) : RaisedTimes n k s t := h

theorem NotRaised.of_beginAnswer {k : NoticeKind} (h : NotRaised k (beginAnswer s) t) : NotRaised k s t := h

theorem RaisedOnce.of_beginAnswer {k : NoticeKind} (h : RaisedOnce k (beginAnswer s) t) : RaisedOnce k s t := h

end

/-- The kinds that Line Reset can raise. -/
def lineResetKinds : List NoticeKind := [.rollClosed, .labelReady, .labelOverrun, .embossChange, .claimChange]

/-- Settles O40. -/
theorem lineResetHolds : Obligations.LineReset := by
  intro s tag hready hbounds
  obtain ⟨-, -, hhist, -, hqueue⟩ := hbounds
  obtain ⟨es, hlen, hall⟩ := foldl_closesAll allLanes_nodup (withEventClosed (beginAnswer s))
  have hall : ClosesAll es (withEventClosed (beginAnswer s)) (rollsClosedAt (withEventClosed (beginAnswer s))) := hall
  have hlen : es.length = openRollCount s := hlen
  have hraises := asEvent_raises (K := lineResetKinds) ((lineReset_raises hall).mono (by simp [lineResetKinds])) (by simp [lineResetKinds])
  have htimes {k : NoticeKind} {n : Nat} (h1 : k ≠ .embossChange) (h2 : k ≠ .claimChange)
      (h : RaisedTimes n k (withEventClosed (beginAnswer s)) (rollsClosedAt (withEventClosed (beginAnswer s)))) :
      RaisedTimes n k s (asEvent lineReset (beginAnswer s)) :=
    (asEvent_raisedTimes h2 (lineReset_raisedTimes h1 h hall.raises.masks)).of_beginAnswer
  have hread {β : Type} {p : State → β} (h1 : ∀ u v, p (u.withLink v) = p u) (h2 : ∀ u v, p (u.withModel v) = p u) :
      p (asEvent lineReset (beginAnswer s)) = p (lineReset (withEventClosed (beginAnswer s))) := asEvent_reads h1 h2 _ _
  have hexec := exec_lineReset hready tag
  rw [respond_eq_answered hraises.answering.1 hraises.answering.2] at hexec
  have hclaim := asEvent_claimChange (f := lineReset) (s := beginAnswer s) ((lineReset_raises hall).others _ (by simp))
    (lineReset_raises hall).masks
  obtain ⟨honce, hnot⟩ := lineReset_embossNoticed hall rfl
  have hembossCount (m : Master) := asEvent_pendingCount (k := .embossChange) (by simp) m lineReset (beginAnswer s)
  obtain ⟨hmap, hjobs, hreg, hemb, hpins⟩ := lineReset_path (withEventClosed (beginAnswer s))
  have hrolls := hread (p := (·.rolls)) (fun _ _ => rfl) (fun _ _ => rfl)
  have hlabels := hread (p := (·.labels)) (fun _ _ => rfl) (fun _ _ => rfl)
  have hspeed := hread (p := (·.speed)) (fun _ _ => rfl) (fun _ _ => rfl)
  have tmap := (hread (p := (·.map)) (fun _ _ => rfl) (fun _ _ => rfl)).trans hmap
  have tpos := (hread (p := (·.pos)) (fun _ _ => rfl) (fun _ _ => rfl)).trans (lineReset_pos _)
  have tjobs := (hread (p := (·.jobs)) (fun _ _ => rfl) (fun _ _ => rfl)).trans hjobs
  have treg (st : Station) := (hread (p := (·.register.get st)) (fun _ _ => rfl) (fun _ _ => rfl)).trans (hreg st)
  have temb := (hread (p := (·.emboss)) (fun _ _ => rfl) (fun _ _ => rfl)).trans hemb
  have tpins := (hread (p := (·.pins)) (fun _ _ => rfl) (fun _ _ => rfl)).trans hpins
  have tshade := (hread (p := (·.shade)) (fun _ _ => rfl) (fun _ _ => rfl)).trans ((lineReset_shade _).trans (by rw [hall.shade]))
  have theld := (congrArg LabelUnit.claimHeld hlabels).trans (congrArg LabelUnit.claimHeld (lineReset_labels _))
  have tknife := (congrArg (fun r : RollUnit => (r.knifeJob, r.knifeReg)) hrolls).trans
    (congrArg (fun r : RollUnit => (r.knifeJob, r.knifeReg)) (lineReset_rolls _))
  obtain ⟨hnext, hnext'⟩ := nextRollId_after_lineReset hrolls
  have hlanes := lanes_after_lineReset hrolls
  obtain ⟨href, hregSlot, hlabelSlot, hmasters, hsettings, b, hb, hruns⟩ := claims_after_lineReset hall hqueue hspeed
  obtain ⟨hjoined, hqueued, hmissed, hlabelled⟩ := history_after_lineReset hall hhist hqueue hrolls hlabels
  obtain ⟨-, -, -, hover⟩ := hall.labels hqueue
  have tover := htimes (by simp) (by simp) hover
  have tclosed := htimes (by simp) (by simp) hall.closed
  have tready := htimes (by simp) (by simp) hall.ready
  have hentries := hall.entries
  obtain ⟨n, hlink⟩ := hraises.link
  have hothers := hraises.others
  clear hread htimes hraises hrolls hlabels hspeed
  generalize asEvent lineReset (beginAnswer s) = t at *
  rw [hlen] at hb hjoined hqueued hmissed hlabelled tover tclosed tready
  have htake : openRollCount s - (16 - s.labels.queue.length) = openRollCount s - min (openRollCount s) (16 - s.labels.queue.length) := by
    omega
  refine ⟨t, hexec, tmap, tpos, tjobs, treg, temb, hlanes, (Prod.mk.inj tknife).1, (Prod.mk.inj tknife).2, hnext, hnext',
    ⟨es, _, hlen, hentries, ?_, rfl, hqueued, hmissed, hlabelled, tclosed, htake ▸ tover, tready⟩, ⟨fun hne m => ?_, fun he m => ?_⟩,
    hclaim.of_beginAnswer, fun k h1 h2 h3 h4 h5 => ?_, tshade, theld, href, hregSlot, hlabelSlot, hmasters, hsettings, ⟨b, hb, hruns⟩,
    ?_, ?_, ?_, ?_, ?_, tpins⟩
  · rw [hlen]
    exact hjoined
  · rw [temb] at hne
    rw [hemb] at honce
    exact (hembossCount m).trans (honce hne m)
  · rw [temb] at he
    rw [hemb] at hnot
    exact (hembossCount m).trans (hnot he m)
  · exact (hothers k (by simp [lineResetKinds, h1, h2, h3, h4, h5])).of_beginAnswer
  all_goals
    rw [hlink]
    rfl

end Sys2Proof.Machine

/-! One station at the creation of the only record of the ring (R28, R60 to R64). -/

namespace Sys2Proof.Machine

open Sys2Proof

/-! ### A ring of one record -/

section

variable {v : State} {r : Repeat}

theorem findRepeat_only (h : v.map.ring = [r]) : findRepeat r.serial v = some r := by simp [findRepeat, h]

theorem findRepeat_only_other (h : v.map.ring = [r]) {n : Nat} (hn : n ≠ r.serial) : findRepeat n v = none := by
  simp [findRepeat, h, Ne.symm hn]

theorem cursorRepeat_only (h : v.map.ring = [r]) {st : Station} (hc : (v.register.get st).cursor = some r.serial) :
    cursorRepeat st v = some r := by
  rw [cursorRepeat, hc, Option.bind_some, findRepeat_only h]

theorem cursorRepeat_only_none (h : v.map.ring = [r]) {st : Station} (hc : (v.register.get st).cursor ≠ some r.serial) :
    cursorRepeat st v = none := by
  cases hcur : (v.register.get st).cursor with
  | none => rw [cursorRepeat, hcur, Option.bind_none]
  | some c => rw [cursorRepeat, hcur, Option.bind_some, findRepeat_only_other h fun e => hc (by rw [hcur, e])]

/-! ### One iteration of coming to rest -/

variable {st : Station} {n : Nat}

theorem settleStation_waits (h : cursorRepeat st v = none) : settleStation st n v = v := by
  cases n <;> simp [settleStation, h]

theorem settleStation_switches (h : cursorRepeat st v = some r) (hj : (v.register.get st).job ≠ some r.job) :
    settleStation st (n + 1) v = settleStation st n (switchStation st r v) := by
  simp [settleStation, h, hj]

theorem settleStation_decided (h : cursorRepeat st v = some r) (hj : (v.register.get st).job = some r.job)
    (hd : r.results.get st ≠ .pending) : settleStation st (n + 1) v = settleStation st n (advanceCursor st v) := by
  simp [settleStation, h, hj, hd]

theorem settleStation_skips (h : cursorRepeat st v = some r) (hj : (v.register.get st).job = some r.job)
    (hd : r.results.get st = .pending) (hs : skipTest st r = true) :
    settleStation st (n + 1) v = settleStation st n (skipRecord st r.serial v) := by
  simp [settleStation, h, hj, hd, hs]

theorem settleStation_stays (h : cursorRepeat st v = some r) (hj : (v.register.get st).job = some r.job)
    (hd : r.results.get st = .pending) (hs : skipTest st r = false) (hw : (v.register.get st).window.isSome = true) :
    settleStation st (n + 1) v = v := by
  simp [settleStation, h, hj, hd, hs, hw]

theorem settleStation_places (h : cursorRepeat st v = some r) (hj : (v.register.get st).job = some r.job)
    (hd : r.results.get st = .pending) (hs : skipTest st r = false) (hw : (v.register.get st).window = none)
    (hp : windowPassed st (placeWindow st r v) = false) : settleStation st (n + 1) v = placeWindow st r v := by
  simp [settleStation, h, hj, hd, hs, hw, hp]

end

/-! ### A station at the only record -/

section

variable {v : State} {r : Repeat} {st : Station} {j : JobRecord}

theorem placeWindow_eq {e : StationEntry} (hj : (v.register.get st).job = some r.job) (hjob : jobOf r.job v = some j)
    (he : j.entry st = some e) : placeWindow st r v = setStation st { v.register.get st with
      window := some { centre := r.start + e.offset, halfWidth := stationHalfWidth j (v.register.get st).state } } v := by
  have hstation : stationJob st v = some j := by rw [stationJob, hj, Option.bind_some, hjob]
  simp only [placeWindow, hstation, he]

theorem stationHalfWidth_pos (hg : GoodLengths j) (state : StationState) : 0 < stationHalfWidth j state := by
  obtain ⟨hlen, -, hw, -⟩ := hg
  unfold stationHalfWidth
  split <;> omega

/-- A window that is placed while the high-water position has not passed the record's start is not passed (R63). -/
theorem windowPassed_placeWindow {e : StationEntry} (hj : (v.register.get st).job = some r.job) (hjob : jobOf r.job v = some j)
    (he : j.entry st = some e) (hg : GoodLengths j) (hw : v.pos.highWater ≤ r.start) : windowPassed st (placeWindow st r v) = false := by
  have hpos := stationHalfWidth_pos hg (v.register.get st).state
  rw [placeWindow_eq hj hjob he]
  simp only [windowPassed, setStation, State.withRegister_register, PerStation.get_set_same, State.withRegister_pos]
  exact decide_eq_false (by omega)

/-- A station whose job is the record's places its window there, or keeps the one it has; the map is as it was (R63). -/
theorem settleStation_own {e : StationEntry} (hring : v.map.ring = [r]) (hc : (v.register.get st).cursor = some r.serial)
    (hj : (v.register.get st).job = some r.job) (hd : r.results.get st = .pending) (hs : skipTest st r = false)
    (hjob : jobOf r.job v = some j) (he : j.entry st = some e) (hg : GoodLengths j) (hw : v.pos.highWater ≤ r.start) (n : Nat) :
    (settleStation st (n + 1) v).map = v.map := by
  have hcur := cursorRepeat_only hring hc
  cases hwin : (v.register.get st).window with
  | some w => rw [settleStation_stays hcur hj hd hs (by rw [hwin]; rfl)]
  | none => rw [settleStation_places hcur hj hd hs hwin (windowPassed_placeWindow hj hjob he hg hw), placeWindow_map]

theorem enterLost_register (st : Station) (s : State) :
    (enterLost st s).register.get st = { s.register.get st with state := .lost } := by
  simp [enterLost, setStation]

/-- A station that switches into a job that lists it is in that job, at the same record (R61). -/
theorem switchStation_listed {e : StationEntry} (hjob : jobOf r.job v = some j) (he : j.entry st = some e) :
    ((switchStation st r v).register.get st).job = some r.job
      ∧ ((switchStation st r v).register.get st).cursor = (v.register.get st).cursor := by
  have hset (x : StationRecord) (u : State) : (setStation st x u).register.get st = x := PerStation.get_set_same _ _ _
  simp only [switchStation, hjob, he, Option.bind_some, Option.map_some]
  split
  · split
    · rw [enterLost_register, hset]; exact ⟨rfl, rfl⟩
    · rw [hset]; exact ⟨rfl, rfl⟩
  · split
    · rw [enterLost_register, hset]; exact ⟨rfl, rfl⟩
    · rw [hset]; exact ⟨rfl, rfl⟩
  · rw [updateRegClaim_register, hset]; exact ⟨rfl, rfl⟩
  all_goals rw [hset]; exact ⟨rfl, rfl⟩

/-- A station that the record's job lists rests at the record, with its result PENDING (R61, R63). -/
theorem restStation_listed {e : StationEntry} (hring : v.map.ring = [r]) (hc : (v.register.get st).cursor = some r.serial)
    (hd : r.results.get st = .pending) (hs : skipTest st r = false) (hjob : jobOf r.job v = some j) (he : j.entry st = some e)
    (hg : GoodLengths j) (hw : v.pos.highWater ≤ r.start) : (restStation st v).map = v.map := by
  have hfuel : settleFuel v = 2 + 1 + 1 := by simp [settleFuel, hring]
  rw [restStation, hfuel]
  by_cases hj : (v.register.get st).job = some r.job
  · exact settleStation_own hring hc hj hd hs hjob he hg hw _
  · obtain ⟨hj', hc'⟩ := switchStation_listed (st := st) hjob he
    rw [settleStation_switches (cursorRepeat_only hring hc) hj, ← switchStation_map st r v]
    exact settleStation_own (by rw [switchStation_map, hring]) (hc'.trans hc) hj' hd hs ((jobOf_congr (by simp) _).trans hjob) he hg
      (by rw [switchStation_pos]; exact hw) _

/-- A station that the record's job does not list leaves the record behind, decided as it is (R62, R64). -/
theorem restStation_unlisted (hring : v.map.ring = [r]) (hc : (v.register.get st).cursor = some r.serial)
    (hd : r.results.get st ≠ .pending) (hjob : jobOf r.job v = some j) (he : j.entry st = none) :
    (restStation st v).map = v.map ∧ cursorRepeat st (restStation st v) = none := by
  have hfuel : settleFuel v = 3 + 1 := by simp [settleFuel, hring]
  have hcur := cursorRepeat_only hring hc
  rw [restStation, hfuel]
  by_cases hj : (v.register.get st).job = some r.job
  · have hnone : cursorRepeat st (advanceCursor st v) = none :=
      cursorRepeat_only_none (by rw [advanceCursor_map, hring]) (by simp [advanceCursor, setStation, hc])
    rw [settleStation_decided hcur hj hd, settleStation_waits hnone, advanceCursor_map]
    exact ⟨rfl, hnone⟩
  · have hoff : switchStation st r v = stationOff st v := by simp [switchStation, hjob, he]
    have hnone : cursorRepeat st (stationOff st v) = none :=
      cursorRepeat_only_none (by rw [stationOff_map, hring]) (by simp [StationRecord.off])
    rw [settleStation_switches hcur hj, hoff, settleStation_waits hnone, stationOff_map]
    exact ⟨rfl, hnone⟩

/-- A station in the record's job, at a record that it skips, moves on (R64). -/
theorem restStation_skips (hring : v.map.ring = [r]) (hc : (v.register.get st).cursor = some r.serial)
    (hj : (v.register.get st).job = some r.job) (hd : r.results.get st = .pending) (hs : skipTest st r = true) :
    restStation st v = skipRecord st r.serial v := by
  have hfuel : settleFuel v = 3 + 1 := by simp [settleFuel, hring]
  have hring' : (skipRecord st r.serial v).map.ring = [{ r with results := r.results.set st .skipped }] := by
    simp [skipRecord, writeResult, updateRepeat_map, hring]
  have hnone : cursorRepeat st (skipRecord st r.serial v) = none :=
    cursorRepeat_only_none hring' (by simp [skipRecord, advanceCursor, setStation, hc])
  rw [restStation, hfuel, settleStation_skips (cursorRepeat_only hring hc) hj hd hs, settleStation_waits hnone]

end

end Sys2Proof.Machine

/-! The stations at the creation of the first repeat of the path, each apart from the others (R28, R60 to R64). -/

namespace Sys2Proof.Machine

open Sys2Proof

/-! ### What a station sees of a record -/

/-- A record as one station sees it: its own result at every place. -/
def Repeat.seenBy (st : Station) (r : Repeat) : Repeat := { r with results := PerStation.tabulate fun _ => r.results.get st }

theorem seenBy_without {x st : Station} (h : st ≠ x) (r : Repeat) : (r.without x).seenBy st = r.seenBy st := by
  simp only [Repeat.seenBy, Repeat.without, PerStation.get_set_other _ _ _ _ h]

/-- What one station touches, the others do not see. -/
theorem OnlyStation.seenBy {x st : Station} (hx : st ≠ x) {s t : State} (h : OnlyStation x s t) :
    t.map.ring.map (Repeat.seenBy st) = s.map.ring.map (Repeat.seenBy st) := by
  have hcomp : Repeat.seenBy st ∘ Repeat.without x = Repeat.seenBy st := funext (seenBy_without hx)
  rw [← hcomp, ← List.map_map, ← List.map_map, h.ring]

theorem OnlyStation.stationAtCreation (rec : Repeat) (s : State) (x : Station) : OnlyStation x s (stationAtCreation rec s x) := by
  unfold Machine.stationAtCreation
  repeat' split
  · exact (OnlyStation.setStation x _ s).trans (.restStation x _)
  · exact .refl x s
  · exact .restStation x s
  · exact .refl x s

/-- The other stations' turns at a creation leave a station's record and what it sees. -/
theorem foldl_stationAtCreation_other {rec : Repeat} {st : Station} {xs : List Station} (h : st ∉ xs) (s : State) :
    (xs.foldl (stationAtCreation rec) s).register.get st = s.register.get st
      ∧ (xs.foldl (stationAtCreation rec) s).map.ring.map (Repeat.seenBy st) = s.map.ring.map (Repeat.seenBy st) := by
  induction xs generalizing s with
  | nil => exact ⟨rfl, rfl⟩
  | cons x xs ih =>
    simp only [List.mem_cons, not_or] at h
    obtain ⟨h1, h2⟩ := ih h.2 (stationAtCreation rec s x)
    have hone := OnlyStation.stationAtCreation rec s x
    exact ⟨h1.trans (hone.register st h.1), h2.trans (hone.seenBy h.1)⟩

/-- A station's part of a creation is its own turn, taken in a state that is the same to it. -/
theorem stationsAtCreation_turn (rec : Repeat) (s : State) (st : Station) :
    ∃ v, v.register.get st = s.register.get st ∧ v.map.ring.map (Repeat.seenBy st) = s.map.ring.map (Repeat.seenBy st)
      ∧ v.jobs = s.jobs ∧ v.pos = s.pos
      ∧ (stationsAtCreation rec s).register.get st = (stationAtCreation rec v st).register.get st
      ∧ (stationsAtCreation rec s).map.ring.map (Repeat.seenBy st) = (stationAtCreation rec v st).map.ring.map (Repeat.seenBy st) := by
  obtain ⟨before, after, hsplit⟩ := List.append_of_mem (mem_allStations st)
  have hnd : allStations.Nodup := by decide
  rw [hsplit] at hnd
  obtain ⟨hbefore, hafter, hdisj⟩ := List.nodup_append.mp hnd
  have hin : st ∉ before := fun h => hdisj st h st List.mem_cons_self rfl
  obtain ⟨h1, h2⟩ := foldl_stationAtCreation_other (rec := rec) hin s
  obtain ⟨h3, h4⟩ := foldl_stationAtCreation_other (rec := rec) (List.nodup_cons.mp hafter).1
    (stationAtCreation rec (before.foldl (stationAtCreation rec) s) st)
  refine ⟨before.foldl (stationAtCreation rec) s, h1, h2, ?_, ?_, ?_, ?_⟩
  · exact foldl_keeps (·.jobs) _ (fun u x => stationAtCreation_jobs rec u x) _ _
  · exact foldl_keeps (·.pos) _ (fun u x => stationAtCreation_pos rec u x) _ _
  · rw [stationsAtCreation, hsplit, List.foldl_append, List.foldl_cons, h3]
  · rw [stationsAtCreation, hsplit, List.foldl_append, List.foldl_cons, h4]

/-- A ring of one record, as a station sees it, is a ring of one record. -/
theorem ring_of_seenBy {v : State} {st : Station} {rec : Repeat} (h : v.map.ring.map (Repeat.seenBy st) = [rec.seenBy st]) :
    ∃ r, v.map.ring = [r] ∧ r.seenBy st = rec.seenBy st := by
  obtain ⟨r, hr, he⟩ := List.map_eq_singleton_iff.mp h
  exact ⟨r, hr, he⟩

/-- What two records that a station sees alike have in common. -/
theorem seenBy_fields {st : Station} {r rec : Repeat} (h : r.seenBy st = rec.seenBy st) :
    r.serial = rec.serial ∧ r.start = rec.start ∧ r.job = rec.job ∧ skipTest st r = skipTest st rec
      ∧ r.results.get st = rec.results.get st := by
  have hres : (r.seenBy st).results.get st = (rec.seenBy st).results.get st := by rw [h]
  have hskip : skipTest st (r.seenBy st) = skipTest st (rec.seenBy st) := by rw [h]
  have hser : (r.seenBy st).serial = (rec.seenBy st).serial := by rw [h]
  have hstart : (r.seenBy st).start = (rec.seenBy st).start := by rw [h]
  have hjob : (r.seenBy st).job = (rec.seenBy st).job := by rw [h]
  exact ⟨hser, hstart, hjob, hskip, by simpa [Repeat.seenBy] using hres⟩

/-! ### The three cases of a station's turn -/

section

variable {s : State} {rec : Repeat} {st : Station} {j : JobRecord}

/-- A station that the first repeat's job does not list is not at the repeat afterwards, and its result there stays SKIPPED
(R22, R60, R62). -/
theorem stationsAtCreation_unlisted (hring : s.map.ring = [rec]) (hjob : jobOf rec.job s = some j) (he : j.entry st = none)
    (hd : rec.results.get st ≠ .pending) (hoff : (s.register.get st).state = .off → s.register.get st = StationRecord.off) :
    (stationsAtCreation rec s).map.ring.map (Repeat.seenBy st) = [rec.seenBy st]
      ∧ ((stationsAtCreation rec s).register.get st).cursor ≠ some rec.serial := by
  obtain ⟨v, hreg, hseen, hjobs, -, hreg', hseen'⟩ := stationsAtCreation_turn rec s st
  rw [hring, List.map_singleton] at hseen
  obtain ⟨r, hr, hsee⟩ := ring_of_seenBy hseen
  obtain ⟨hser, -, hrjob, -, hres⟩ := seenBy_fields hsee
  have hvjob : jobOf r.job v = some j := by rw [jobOf_congr hjobs, hrjob, hjob]
  rw [hreg', hseen', stationAtCreation]
  split
  · next hstate =>
    have hrec : ((jobOf rec.job v).bind fun j => j.entry st) = none := by rw [← hrjob, hvjob, Option.bind_some, he]
    rw [hrec, Option.isSome_none, Bool.and_false, if_neg Bool.false_ne_true, hseen]
    refine ⟨rfl, ?_⟩
    rw [hreg] at hstate ⊢
    rw [hoff hstate]
    simp [StationRecord.off]
  · split
    · next hc =>
      obtain ⟨hmap, hnone⟩ := restStation_unlisted hr (by rw [hc, hser]) (by rw [hres]; exact hd) hvjob he
      refine ⟨by rw [hmap, hseen], fun hcur => ?_⟩
      have hsome := cursorRepeat_only (by rw [hmap, hr]) (hcur.trans (by rw [hser]))
      exact absurd (hnone.symm.trans hsome) (by simp)
    · next hc => exact ⟨hseen, hc⟩

/-- What a station starts with at a change point (R60). -/
def startedRecord (rec : Repeat) : StationRecord :=
  { StationRecord.off with state := .armed, job := some rec.job, cursor := some rec.serial }

theorem startStation_register (st : Station) (rec : Repeat) (v : State) :
    (startStation st rec v).register.get st = startedRecord rec := PerStation.get_set_same _ _ _

theorem stationAtCreation_starts {v : State} {e : StationEntry} (hcp : rec.changePoint = true) (hjob : jobOf rec.job v = some j)
    (he : j.entry st = some e) (hoff : (v.register.get st).state = .off) :
    stationAtCreation rec v st = restStation st (startStation st rec v) := by
  have hlisted : ((jobOf rec.job v).bind fun j => j.entry st).isSome = true := by rw [hjob, Option.bind_some, he]; rfl
  rw [stationAtCreation, if_pos hoff, hcp, hlisted]
  rfl

/-- A station that the first repeat's job lists holds PENDING for it, and one that starts there has its window placed
(R60, R63). -/
theorem stationsAtCreation_listed {e : StationEntry} (hring : s.map.ring = [rec]) (hjob : jobOf rec.job s = some j)
    (he : j.entry st = some e) (hcp : rec.changePoint = true) (hd : rec.results.get st = .pending) (hs : skipTest st rec = false)
    (hg : GoodLengths j) (hw : s.pos.highWater ≤ rec.start) :
    (stationsAtCreation rec s).map.ring.map (Repeat.seenBy st) = [rec.seenBy st]
      ∧ (s.register.get st = StationRecord.off → (stationsAtCreation rec s).register.get st
        = { startedRecord rec with window := some { centre := rec.start + e.offset, halfWidth := j.halfWindow } }) := by
  obtain ⟨v, hreg, hseen, hjobs, hpos, hreg', hseen'⟩ := stationsAtCreation_turn rec s st
  rw [hring, List.map_singleton] at hseen
  obtain ⟨r, hr, hsee⟩ := ring_of_seenBy hseen
  obtain ⟨hser, hstart, hrjob, hskip, hres⟩ := seenBy_fields hsee
  have hvjob : jobOf r.job v = some j := by rw [jobOf_congr hjobs, hrjob, hjob]
  have hrest (u : State) (hu : u.map = v.map) (huj : u.jobs = v.jobs) (hup : u.pos = v.pos)
      (hc : (u.register.get st).cursor = some rec.serial) : (restStation st u).map = u.map :=
    restStation_listed (by rw [hu, hr]) (by rw [hc, hser]) (by rw [hres, hd]) (by rw [hskip, hs]) (by rw [jobOf_congr huj, hvjob]) he hg
      (by rw [hup, hpos, hstart]; exact hw)
  rw [hreg', hseen']
  refine ⟨?_, fun hoff => ?_⟩
  · by_cases hoff : (v.register.get st).state = .off
    · have hstart' := hrest (startStation st rec v) rfl rfl rfl (by rw [startStation_register]; rfl)
      rw [stationAtCreation_starts hcp (hrjob ▸ hvjob) he hoff, hstart']
      exact hseen
    · rw [stationAtCreation, if_neg hoff]
      split
      · next hc => rw [hrest v rfl rfl rfl hc, hseen]
      · exact hseen
  · have hstate : (v.register.get st).state = .off := by rw [hreg, hoff]; rfl
    have hown := startStation_register st rec v
    have hj : ((startStation st rec v).register.get st).job = some r.job := by rw [hown, hrjob]; rfl
    have hjob' : jobOf r.job (startStation st rec v) = some j := hvjob
    have hfuel : settleFuel (startStation st rec v) = 3 + 1 := by simp [settleFuel, hr]
    have hcur : cursorRepeat st (startStation st rec v) = some r :=
      cursorRepeat_only (v := startStation st rec v) (st := st) hr (by rw [hown, hser]; rfl)
    rw [stationAtCreation_starts hcp (hrjob ▸ hvjob) he hstate, restStation, hfuel,
      settleStation_places hcur hj (by rw [hres, hd]) (by rw [hskip, hs]) (by rw [hown]; rfl)
        (windowPassed_placeWindow hj hjob' he hg (by rw [hstart]; exact (congrArg PositionUnit.highWater hpos).le.trans hw)),
      placeWindow_eq hj hjob' he]
    simp only [setStation, State.withRegister_register, PerStation.get_set_same, hown, hstart]
    rfl

/-- A station that starts at a first repeat that it skips writes SKIPPED and waits at the next (R60, R64). -/
theorem stationsAtCreation_skipped {e : StationEntry} (hring : s.map.ring = [rec]) (hjob : jobOf rec.job s = some j)
    (he : j.entry st = some e) (hcp : rec.changePoint = true) (hd : rec.results.get st = .pending) (hs : skipTest st rec = true)
    (hoff : s.register.get st = StationRecord.off) :
    (∃ r, (stationsAtCreation rec s).map.ring = [r] ∧ r.serial = rec.serial ∧ r.results.get st = .skipped)
      ∧ (stationsAtCreation rec s).register.get st = { startedRecord rec with cursor := some (rec.serial + 1) } := by
  obtain ⟨v, hreg, hseen, hjobs, -, hreg', hseen'⟩ := stationsAtCreation_turn rec s st
  rw [hring, List.map_singleton] at hseen
  obtain ⟨r, hr, hsee⟩ := ring_of_seenBy hseen
  obtain ⟨hser, -, hrjob, hskip, hres⟩ := seenBy_fields hsee
  have hvjob : jobOf rec.job v = some j := by rw [jobOf_congr hjobs, hjob]
  have hown := startStation_register st rec v
  have hturn : stationAtCreation rec v st = skipRecord st r.serial (startStation st rec v) := by
    rw [stationAtCreation_starts hcp hvjob he (by rw [hreg, hoff]; rfl)]
    exact restStation_skips (v := startStation st rec v) hr (by rw [hown, hser]; rfl) (by rw [hown, hrjob]; rfl) (by rw [hres, hd])
      (by rw [hskip, hs])
  have hring' : (skipRecord st r.serial (startStation st rec v)).map.ring = [{ r with results := r.results.set st .skipped }] := by
    simp [skipRecord, writeResult, updateRepeat_map, hr]
  rw [hturn, hring', List.map_singleton] at hseen'
  rw [hreg', hturn]
  refine ⟨?_, ?_⟩
  · obtain ⟨x, hx, hxs⟩ := ring_of_seenBy (rec := { r with results := r.results.set st .skipped }) hseen'
    obtain ⟨hxser, -, -, -, hxres⟩ := seenBy_fields hxs
    exact ⟨x, hx, hxser.trans hser, hxres.trans (PerStation.get_set_same _ _ _)⟩
  · simp [skipRecord, advanceCursor, setStation, hown, startedRecord, StationRecord.off]

end

end Sys2Proof.Machine

/-! What the nip and the knife leave of the stations and of the only record of the ring (R89, R90, R96). -/

namespace Sys2Proof.Machine

open Sys2Proof

/-! ### What is a station's own -/

/-- A record's serial, with a station's result at it. -/
def stationReading (st : Station) (r : Repeat) : Nat × StationResult := (r.serial, r.results.get st)

/-- From `s` to `t` a station's record and its results are as they were. -/
structure StationKept (st : Station) (s t : State) : Prop where
  register : t.register.get st = s.register.get st
  ring : t.map.ring.map (stationReading st) = s.map.ring.map (stationReading st)

theorem StationKept.trans {st : Station} {s t u : State} (h : StationKept st s t) (k : StationKept st t u) : StationKept st s u :=
  ⟨k.register.trans h.register, k.ring.trans h.ring⟩

theorem StationKept.of_same {st : Station} {s t : State} (hr : t.register = s.register) (hm : t.map.ring = s.map.ring) : StationKept st s t :=
  ⟨by rw [hr], by rw [hm]⟩

theorem stationReading_seenBy (st : Station) (r : Repeat) : stationReading st (r.seenBy st) = stationReading st r := by
  simp [stationReading, Repeat.seenBy]

/-- What another station touches is not a station's own. -/
theorem StationKept.of_only {x st : Station} (hx : st ≠ x) {s t : State} (h : OnlyStation x s t) : StationKept st s t := by
  have hcomp : stationReading st ∘ Repeat.seenBy st = stationReading st := funext (stationReading_seenBy st)
  refine ⟨h.register st hx, ?_⟩
  rw [← hcomp, ← List.map_map, h.seenBy hx, List.map_map]

theorem StationKept.updateRepeat {f : Repeat → Repeat} {st : Station} (hf : ∀ r, stationReading st (f r) = stationReading st r) (n : Nat)
    (s : State) : StationKept st s (updateRepeat n f s) := by
  refine ⟨by simp, ?_⟩
  rw [updateRepeat_map, List.map_map]
  refine List.map_congr_left fun r _ => ?_
  simp only [Function.comp]
  split
  · exact hf r
  · rfl

/-- A station that waits goes on waiting while what is its own is kept. -/
theorem StationKept.waits {st : Station} {s t : State} (h : StationKept st s t) (hc : cursorRepeat st s = none) :
    cursorRepeat st t = none := by
  have hfind (n : Nat) := findRepeat_of_reading (sel := Prod.fst) (g := stationReading st) (fun _ => rfl) h.ring n
  rw [cursorRepeat] at hc ⊢
  rw [h.register]
  cases hcur : (s.register.get st).cursor with
  | none => rfl
  | some n =>
    rw [hcur, Option.bind_some] at hc
    have hnone := hfind n
    rw [hc] at hnone
    exact Option.map_eq_none_iff.mp hnone

/-! ### The nip -/

theorem StationKept.writeEmboss (st : Station) (rec : Repeat) (s : State) : StationKept st s (writeEmboss rec s) := by
  have hset (u : State) : StationKept st u (settleStep u) := .of_same (by simp) (by simp)
  have hone : StationKept st s (Machine.updateRepeat rec.serial
      (fun r => { r with emboss := nipStatus ((jobOf rec.job s).bind (·.emboss)).isSome s.emboss.state }) s) :=
    .updateRepeat (f := fun r => { r with emboss := nipStatus ((jobOf rec.job s).bind (·.emboss)).isSome s.emboss.state }) (fun _ => by rfl) _ _
  simp only [Machine.writeEmboss]
  split
  · exact hone.trans (hset _)
  · exact hone

theorem station7Status_waits {s : State} (h : cursorRepeat .s7 s = none) (n : Nat) : station7Status n s = s := by
  simp only [station7Status, h]

/-- The hand-off is station 7's alone, and does nothing when it waits (R65). -/
theorem StationKept.station7Status {st : Station} {s : State} (h : st = .s7 → cursorRepeat .s7 s = none) (n : Nat) :
    StationKept st s (station7Status n s) := by
  by_cases h7 : st = .s7
  · rw [station7Status_waits (h h7)]
    exact .of_same rfl rfl
  · exact .of_only h7 (.station7Status _ _)

/-- A passing at the nip is station 7's alone, and not when it waits (R90). -/
theorem StationKept.passNip {st : Station} {s : State} (h : st = .s7 → cursorRepeat .s7 s = none) (rec : Repeat) :
    StationKept st s (passNip rec s) := by
  have hhandoff (u : State) (m : WebMap) (e : EmbossUnit) (n : Nat) (hu : StationKept st s u) (hm : m.ring = u.map.ring) :
      StationKept st s (Machine.station7Status n ((u.withMap m).withEmboss e)) := by
    have hmoved : StationKept st s ((u.withMap m).withEmboss e) := hu.trans (.of_same rfl hm)
    exact hmoved.trans (.station7Status (fun h7 => by subst h7; exact hmoved.waits (h rfl)) n)
  have hlifts (p : SpliceLift → Bool) : StationKept st s (removeLifts p s) := .of_same (by simp) (by simp)
  exact hhandoff _ _ _ _ ((hlifts _).trans (.writeEmboss st rec _)) rfl

theorem StationKept.settleNip {st : Station} (n : Nat) {s : State} (h : st = .s7 → cursorRepeat .s7 s = none) :
    StationKept st s (settleNip n s) := by
  induction n generalizing s with
  | zero => exact .of_same rfl rfl
  | succ n ih =>
    unfold Machine.settleNip
    split
    · exact .of_same rfl rfl
    · next rec _ =>
      have harrive : StationKept st s (arriveAtNip rec s) := .of_same (by simp) (by simp)
      have hwaits : st = .s7 → cursorRepeat .s7 (arriveAtNip rec s) = none := fun h7 => by subst h7; exact harrive.waits (h rfl)
      simp only
      split
      · have hpass := StationKept.passNip hwaits rec
        exact (harrive.trans hpass).trans (ih fun h7 => by subst h7; exact hpass.waits (hwaits rfl))
      · exact harrive.trans (.of_same rfl rfl)

/-- What the creation of a record does at the nip, when the nip's cursor waits for it (R28). -/
def nipAtCreation (rec : Repeat) (s : State) : State := if s.map.nipCursor = rec.serial then restNip s else s

/-- At a creation the nip leaves every station but station 7, and station 7 too when it waits (R90). -/
theorem StationKept.nipAtCreation {st : Station} {s : State} (h : st = .s7 → cursorRepeat .s7 s = none) (rec : Repeat) :
    StationKept st s (Machine.nipAtCreation rec s) := by
  unfold Machine.nipAtCreation
  split
  · exact .settleNip _ h
  · exact .of_same rfl rfl

/-- The only record's nip position lies ahead, so the nip passes nothing at its creation (R90). -/
theorem StationKept.nipAhead {s : State} {r : Repeat} (hring : s.map.ring = [r]) (hw : s.pos.highWater < r.start + s.jobs.geometry.eNip)
    (st : Station) (rec : Repeat) : StationKept st s (Machine.nipAtCreation rec s) := by
  unfold Machine.nipAtCreation
  split
  · rw [restNip, hring, List.length_singleton, Machine.settleNip]
    split
    · exact .of_same rfl rfl
    · next x hx =>
      have hxr : x = r := List.mem_singleton.mp (hring ▸ List.mem_of_find?_eq_some hx)
      simp only [arriveAtNip_jobs, arriveAtNip_pos, hxr]
      rw [if_neg (Nat.not_le.mpr hw)]
      exact .of_same (by simp) (by simp)
  · exact .of_same rfl rfl

@[simp] theorem nipAtCreation_pos (rec : Repeat) (s : State) : (nipAtCreation rec s).pos = s.pos := by
  unfold nipAtCreation; split <;> simp

@[simp] theorem nipAtCreation_jobs (rec : Repeat) (s : State) : (nipAtCreation rec s).jobs = s.jobs := by
  unfold nipAtCreation; split <;> simp

@[simp] theorem nipAtCreation_shade (rec : Repeat) (s : State) : (nipAtCreation rec s).shade = s.shade := by
  unfold nipAtCreation; split <;> simp

theorem nipAtCreation_printedMap (rec : Repeat) (s : State) :
    ∃ c, printedMap (nipAtCreation rec s) = { printedMap s with nipCursor := c } := by
  unfold nipAtCreation
  split
  · obtain ⟨c, -, hc⟩ := restNip_printedMap s
    exact ⟨c, hc⟩
  · exact ⟨_, rfl⟩

theorem GivesOff.nipAtCreation (rec : Repeat) (s : State) : GivesOff s (nipAtCreation rec s) := by
  unfold Machine.nipAtCreation
  split
  · exact .restNip s
  · exact .refl s

theorem cursorsAtCreation_eq (rec : Repeat) (s : State) :
    cursorsAtCreation rec s = knifeAtCreation rec (nipAtCreation rec (stationsAtCreation rec s)) := rfl

/-! ### The knife -/

/-- Without a knife registration due, the creation of a record writes the lanes alone at the knife (R96, R106). -/
theorem knifeAtCreation_of_notDue {s : State} (h : dueKnifeReg s = none) (rec : Repeat) :
    ∃ x, knifeAtCreation rec s = s.withRolls x := by
  have hrest {u : State} (hu : dueKnifeReg u = none) : restKnife u = placeKnife u :=
    restKnife_of_ahead fun reg hreg => absurd (hu.symm.trans hreg) (by simp)
  have htake : dueKnifeReg (takeUpJob rec s) = dueKnifeReg s := by
    unfold takeUpJob
    split <;> rfl
  unfold knifeAtCreation
  split
  · split
    · rw [hrest (htake.trans h), takeUpJob]
      split
      · exact ⟨_, rfl⟩
      · exact ⟨_, rfl⟩
    · rw [hrest h]; exact ⟨_, rfl⟩
  · split
    · rw [hrest h]; exact ⟨_, rfl⟩
    · exact ⟨s.rolls, rfl⟩

/-- With one record in the ring, and no final boundary, no knife registration is due (R96). -/
theorem dueKnifeReg_only {s : State} {r : Repeat} (hring : s.map.ring = [r])
    (htail : ∀ t, s.jobs.tail = some t → t.finalBoundary = none) : dueKnifeReg s = none := by
  unfold dueKnifeReg
  split
  · rfl
  · next k hk =>
    have hkr : k = r := List.mem_singleton.mp (hring ▸ List.mem_of_find?_eq_some hk)
    rw [hkr, findRepeat_only_other hring (by omega)]
    simp only
    split
    · rfl
    · next t ht =>
      rw [htail t ht]
      split <;> rfl

end Sys2Proof.Machine

/-! The creation of the first repeat of the path (R6, R11). -/

namespace Sys2Proof.Machine

open Sys2Proof

/-! ### The stages of the creation in an empty path -/

/-- The record of the first repeat of the path (R22). -/
def firstRecord (j : JobRecord) (start : Nat) (o : Origin) (res : StationResult) (s : State) : Repeat :=
  newRepeat j s.pos.nextSerial start o true res s.map.extent

/-- The first repeat of the path has joined the empty ring, and its job is the head job (R11, R47). -/
def firstJoined (j : JobRecord) (start : Nat) (o : Origin) (res : StationResult) (s : State) : State :=
  appendRepeat (firstRecord j start o res s) (switchJobs j s.pos.nextSerial (takeSerial s))

/-- The stations and the nip have taken up the first repeat of the path (R28). -/
def firstTakenUp (j : JobRecord) (start : Nat) (o : Origin) (res : StationResult) (s : State) : State :=
  nipAtCreation (firstRecord j start o res s) (stationsAtCreation (firstRecord j start o res s) (firstJoined j start o res s))

section

variable {s : State} {j : JobRecord} (start : Nat) (o : Origin) (res : StationResult)

/-! ### The record has joined the ring -/

theorem firstJoined_jobs (harm : armedJob s = some j) : (firstJoined j start o res s).jobs = slotsAfterCreation s := by
  rw [firstJoined, appendRepeat_jobs, switchJobs_jobs, takeSerial_jobs]
  cases hh : s.jobs.head <;> simp only [slotsAfterCreation, harm, hh]

theorem firstJoined_register : (firstJoined j start o res s).register = s.register := by simp [firstJoined]

theorem firstJoined_map (hring : s.map.ring = []) : (firstJoined j start o res s).map = { s.map with
    ring := [firstRecord j start o res s], extent := if s.pos.nextSerial = s.map.extent then 0 else s.map.extent } := by
  simp [firstJoined, appendRepeat, hring, firstRecord, newRepeat]

theorem firstJoined_pos : (firstJoined j start o res s).pos
    = { s.pos with nextSerial := serialAfter s.model.draws s.pos.nextSerial } := by
  simp only [firstJoined, appendRepeat_pos, switchJobs_pos, takeSerial]
  split <;> simp

theorem firstJoined_shade : (firstJoined j start o res s).shade = shadeAtJobSwitch s.jobs.head.isSome j.batchBase s.shade := by
  simp [firstJoined, switchJobs]

/-- JOB_SWITCHED is raised once, and no other notice (R47). -/
theorem firstJoined_notices : RaisedOnce .jobSwitched s (firstJoined j start o res s)
    ∧ NotRaised .spliceSeen s (firstJoined j start o res s) := by
  have hjoin (rec : Repeat) (k : NoticeKind) (u : State) : NotRaised k u (appendRepeat rec u) := fun m => by
    simp [pendingCount]
  have hserial (k : NoticeKind) : NotRaised k s (takeSerial s) := fun m => by simp [pendingCount]
  have hswitch (k : NoticeKind) (v : JobUnit) (w : ShadeUnit) (u : State) : NotRaised k u ((u.withJobs v).withShade w) := fun m => rfl
  refine ⟨RaisedOnce.before ?_ (hjoin _ _ _), NotRaised.trans ?_ (hjoin _ _ _)⟩
  · exact .after ((hserial _).trans (hswitch _ _ _ _)) (by simp) (.of_raise _ _)
  · exact ((hserial _).trans (hswitch _ _ _ _)).trans fun m => pendingCount_raiseNotice_other (by simp) _ _

/-! ### The stations and the nip have taken it up -/

theorem firstTakenUp_jobs (harm : armedJob s = some j) : (firstTakenUp j start o res s).jobs = slotsAfterCreation s := by
  rw [firstTakenUp, nipAtCreation_jobs, stationsAtCreation_jobs, firstJoined_jobs start o res harm]

theorem firstTakenUp_pos : (firstTakenUp j start o res s).pos = { s.pos with nextSerial := serialAfter s.model.draws s.pos.nextSerial } := by
  rw [firstTakenUp, nipAtCreation_pos, stationsAtCreation_pos, firstJoined_pos]

theorem firstTakenUp_shade : (firstTakenUp j start o res s).shade = shadeAtJobSwitch s.jobs.head.isSome j.batchBase s.shade := by
  rw [firstTakenUp, nipAtCreation_shade, stationsAtCreation_shade, firstJoined_shade]

theorem firstTakenUp_printedMap (hring : s.map.ring = []) : ∃ c, printedMap (firstTakenUp j start o res s) = { s.map with
    ring := [(firstRecord j start o res s).printed], extent := if s.pos.nextSerial = s.map.extent then 0 else s.map.extent
    nipCursor := c } := by
  obtain ⟨c, hc⟩ := nipAtCreation_printedMap (firstRecord j start o res s)
    (stationsAtCreation (firstRecord j start o res s) (firstJoined j start o res s))
  refine ⟨c, ?_⟩
  rw [firstTakenUp, hc, stationsAtCreation_printedMap, printedMap, firstJoined_map start o res hring]
  rfl

theorem GivesOff.firstTakenUp : GivesOff (firstJoined j start o res s) (firstTakenUp j start o res s) :=
  (GivesOff.stationsAtCreation _ _).trans (.nipAtCreation _ _)

theorem printedMap_ring (s : State) : (printedMap s).ring = s.map.ring.map Repeat.printed := rfl

theorem firstTakenUp_ring (hring : s.map.ring = []) : ∃ r, (firstTakenUp j start o res s).map.ring = [r]
    ∧ r.printed = (firstRecord j start o res s).printed := by
  obtain ⟨c, hc⟩ := firstTakenUp_printedMap (j := j) start o res hring
  rw [← List.map_eq_singleton_iff, ← printedMap_ring, hc]

theorem slotsAfterCreation_tail (harm : armedJob s = some j) (htail : s.jobs.tail = none) :
    ∀ t, (slotsAfterCreation s).tail = some t → t.finalBoundary = none := by
  intro t ht
  simp only [slotsAfterCreation, harm, htail] at ht
  cases hh : s.jobs.head with
  | none => rw [hh] at ht; exact absurd ht (by simp)
  | some h =>
    rw [hh] at ht
    obtain rfl := Option.some.inj ht
    rfl

/-! ### The whole creation -/

/-- The designation at a change point steps the generator and draws the target (R121). -/
theorem designate_first {v : State} {n : Nat} (hh : v.jobs.head = some { record := j, firstSerial := n }) :
    designate n v = updateRepeat n (fun r => { r with designated := (drawTarget n j.sampleInterval v.shade).target = some n })
      (v.withShade (drawTarget n j.sampleInterval v.shade)) := by
  have hstarts : startsInterval n n j.sampleInterval = true := by simp [startsInterval]
  simp only [designate, hh, hstarts, if_true]
  rfl

/-- The first repeat of the path is taken up, the lanes aside, and then designated (R11). -/
theorem createRepeat_first (hring : s.map.ring = []) (harm : armedJob s = some j) (htail : s.jobs.tail = none) :
    ∃ x, createRepeat j start o res s = designate s.pos.nextSerial ((firstTakenUp j start o res s).withRolls x) := by
  have hnamed : namedAt start s = switchJobs j s.pos.nextSerial (takeSerial s) := by
    rw [namedAt, completedAt_of_empty hring, harm]; rfl
  have hmap : (namedAt start s).map = s.map := by rw [hnamed, switchJobs_map, takeSerial_map]
  have hrec : recordAt j start o res s = firstRecord j start o res s := by
    rw [recordAt, hmap, completedAt_of_empty hring, harm]; rfl
  obtain ⟨r, hr, -⟩ := firstTakenUp_ring (j := j) start o res hring
  obtain ⟨x, hx⟩ := knifeAtCreation_of_notDue
    (dueKnifeReg_only hr (by rw [firstTakenUp_jobs start o res harm]; exact slotsAfterCreation_tail harm htail))
    (firstRecord j start o res s)
  refine ⟨x, ?_⟩
  rw [createRepeat_eq, joinedAt, hrec, hnamed, completedAt_of_empty hring, cursorsAtCreation_eq]
  exact congrArg (designate _) hx

end

end Sys2Proof.Machine

/-! The creation of the first repeat of the path, as R11 states it, and its stations. -/

namespace Sys2Proof.Machine

open Sys2Proof

/-! ### What the creation of the first repeat leaves -/

section

variable {s : State} {j : JobRecord} {start : Nat} {o : Origin} {res : StationResult}

/-- The shade unit after the creation of the first repeat (R121, R134). -/
def firstShade (j : JobRecord) (s : State) : ShadeUnit :=
  drawTarget s.pos.nextSerial j.sampleInterval (shadeAtJobSwitch s.jobs.head.isSome j.batchBase s.shade)

/-- The state `u` after the creation of the first repeat: what the stations and the nip took up, with the designation (R11). -/
structure FirstCreation (j : JobRecord) (start : Nat) (o : Origin) (res : StationResult) (s u : State) : Prop where
  serial : u.pos.nextSerial = serialAfter s.model.draws s.pos.nextSerial
  splices : u.pos.splices = s.pos.splices
  highWater : u.pos.highWater = s.pos.highWater
  jobs : u.jobs = slotsAfterCreation s
  shade : u.shade = firstShade j s
  register : u.register = (firstTakenUp j start o res s).register
  notices : ∀ k, k ≠ .claimChange → NotRaised k (firstTakenUp j start o res s) u
  extent : u.map.extent = if s.pos.nextSerial = s.map.extent then 0 else s.map.extent
  ring : ∃ r, (firstTakenUp j start o res s).map.ring = [r] ∧ r.printed = (firstRecord j start o res s).printed
    ∧ u.map.ring = [{ r with designated := decide ((firstShade j s).target = some s.pos.nextSerial) }]

theorem printedMap_extent (s : State) : (printedMap s).extent = s.map.extent := rfl

theorem firstCreation (hring : s.map.ring = []) (harm : armedJob s = some j) (htail : s.jobs.tail = none) :
    FirstCreation j start o res s (createRepeat j start o res s) := by
  obtain ⟨x, hx⟩ := createRepeat_first start o res hring harm htail
  obtain ⟨r, hr, hprinted⟩ := firstTakenUp_ring (j := j) start o res hring
  obtain ⟨c, hc⟩ := firstTakenUp_printedMap (j := j) start o res hring
  have hextent : (firstTakenUp j start o res s).map.extent = if s.pos.nextSerial = s.map.extent then 0 else s.map.extent := by
    rw [← printedMap_extent, hc]
  have hpos := firstTakenUp_pos (s := s) (j := j) start o res
  have hjobs := firstTakenUp_jobs start o res harm
  have hshade := firstTakenUp_shade (s := s) (j := j) start o res
  have hserial : r.serial = s.pos.nextSerial := congrArg Repeat.serial hprinted
  have hhead : (slotsAfterCreation s).head = some { record := j, firstSerial := s.pos.nextSerial } := by
    rw [slotsAfterCreation, harm]
  rw [hx]
  refine ⟨by rw [designate_pos, State.withRolls_pos, hpos], by rw [designate_pos, State.withRolls_pos, hpos],
    by rw [designate_pos, State.withRolls_pos, hpos], by rw [designate_jobs, State.withRolls_jobs, hjobs], ?_,
    by rw [designate_register, State.withRolls_register], fun _ _ m => by rw [pendingCount, designate_link, State.withRolls_link, pendingCount], ?_, r, hr, hprinted, ?_⟩
  all_goals
    rw [designate_first (j := j) (by rw [State.withRolls_jobs, hjobs, hhead])]
    simp only [State.withRolls_shade, hshade]
  · rw [updateRepeat_shade, State.withShade_shade, firstShade]
  · rw [updateRepeat_map, State.withShade_map, State.withRolls_map, hextent]
  · rw [updateRepeat_map]
    simp only [State.withShade_map, State.withRolls_map, hr, List.map_singleton, hserial, beq_self_eq_true, if_true]
    rfl

variable {u : State}

/-- The creation of the first repeat, as R11 states it. -/
theorem FirstCreation.creates (h : FirstCreation j start o res s u) (hring : s.map.ring = []) (harm : armedJob s = some j) :
    CreatesRepeat s j start o res u := by
  obtain ⟨hswitched, hseen⟩ := firstJoined_notices (s := s) (j := j) start o res
  have hgives := (GivesOff.firstTakenUp (s := s) (j := j) start o res).raises.others
  have hspan (p : Nat) : inCompletedSpan start s p = false := by simp [inCompletedSpan, hring]
  have hsplice : spliceRepeatAt start s = none := by simp [spliceRepeatAt, hring]
  have hextent : extentCompleted start s = s.map.extent := by simp [extentCompleted, hsplice]
  have hstarts : intervalStarts s j := by simp [intervalStarts, intervalFirst, harm]
  obtain ⟨r, -, hprinted, hu⟩ := h.ring
  refine ⟨fun hn => ?_, ?_, ?_, by rw [h.extent, hextent], fun hsome => absurd hsome (by simp [hsplice]), fun _ => ?_, h.jobs,
    fun _ => ?_, fun hnone => absurd (harm.symm.trans hnone) (by simp), fun _ => ⟨?_, fun hh => ?_⟩,
    fun hnone => absurd (harm.symm.trans hnone) (by simp), fun _ => ?_, fun hno => absurd hstarts hno⟩
  · rw [h.serial]; exact if_pos hn
  · rw [h.splices]; simp [hspan]
  · have hrec : Repeat.printed { r with designated := decide ((firstShade j s).target = some s.pos.nextSerial) }
        = { r.printed with designated := decide ((firstShade j s).target = some s.pos.nextSerial) } := rfl
    rw [hu, List.map_singleton, hrec, hprinted, h.shade]
    simp only [recordsCompleted, hring, List.getLast?_nil, List.map_nil, List.nil_append, recordCreated, hextent, harm]
    rfl
  · exact hseen.trans ((hgives _ (by simp)).trans (h.notices _ (by simp)))
  · exact hswitched.before ((hgives _ (by simp)).trans (h.notices _ (by simp)))
  · rw [h.shade]; rfl
  · rw [h.shade, firstShade, hh]; rfl
  · rw [h.shade]; exact ⟨rfl, rfl⟩

/-! ### The stations at the first repeat -/

/-- The state in which the stations alone have taken up the first repeat. -/
def firstAtStations (j : JobRecord) (start : Nat) (o : Origin) (res : StationResult) (s : State) : State :=
  stationsAtCreation (firstRecord j start o res s) (firstJoined j start o res s)

theorem firstRecord_result (st : Station) :
    (firstRecord j start o res s).results.get st = if (j.entry st).isSome then .pending else .skipped := by
  simp [firstRecord, newRepeat]

theorem skipTest_firstRecord (st : Station) :
    skipTest st (firstRecord j start o res s) = ((firstRecord j start o res s).excluded || o == .synth) := by
  simp [skipTest, firstRecord, newRepeat]

theorem jobOf_firstRecord (harm : armedJob s = some j) : jobOf (firstRecord j start o res s).job (firstJoined j start o res s) = some j := by
  rw [jobOf, firstJoined_jobs start o res harm, slotsAfterCreation, harm]
  simp [firstRecord, newRepeat]

/-- A station's result at the first repeat, when the nip leaves it as the stations' own turns gave it. -/
theorem FirstCreation.result (h : FirstCreation j start o res s u) {st : Station} {x : StationResult} {n : Nat}
    (hkept : StationKept st (firstAtStations j start o res s) (firstTakenUp j start o res s))
    (hx : (firstAtStations j start o res s).map.ring.map (stationReading st) = [(n, x)]) {rec : Repeat}
    (hrec : u.map.ring.getLast? = some rec) : rec.results.get st = x := by
  obtain ⟨r, hr, -, hu⟩ := h.ring
  have hread := hkept.ring
  rw [hr, hx] at hread
  rw [hu] at hrec
  obtain rfl := Option.some.inj hrec
  exact congrArg Prod.snd (List.singleton_inj.mp hread)

theorem FirstCreation.station (h : FirstCreation j start o res s u) {st : Station}
    (hkept : StationKept st (firstAtStations j start o res s) (firstTakenUp j start o res s)) :
    u.register.get st = (firstAtStations j start o res s).register.get st := by rw [h.register, hkept.register]

theorem FirstCreation.excluded (h : FirstCreation j start o res s u) {rec : Repeat} (hrec : u.map.ring.getLast? = some rec) :
    (firstRecord j start o res s).excluded = rec.excluded := by
  obtain ⟨r, -, hprinted, hu⟩ := h.ring
  rw [hu] at hrec
  obtain rfl := Option.some.inj hrec
  exact (congrArg Repeat.excluded hprinted).symm

theorem reading_of_seenBy {v : State} {st : Station} {rec : Repeat} (h : v.map.ring.map (Repeat.seenBy st) = [rec.seenBy st]) :
    v.map.ring.map (stationReading st) = [stationReading st rec] := by
  obtain ⟨r, hr, hsee⟩ := ring_of_seenBy h
  obtain ⟨hser, -, -, -, hres⟩ := seenBy_fields hsee
  rw [hr, List.map_singleton, stationReading, stationReading, hser, hres]

theorem waits_of_seenBy {v : State} {st : Station} {rec : Repeat} (h : v.map.ring.map (Repeat.seenBy st) = [rec.seenBy st])
    (hc : (v.register.get st).cursor ≠ some rec.serial) : cursorRepeat st v = none := by
  obtain ⟨r, hr, hsee⟩ := ring_of_seenBy h
  exact cursorRepeat_only_none hr (by rw [(seenBy_fields hsee).1]; exact hc)

theorem firstJoined_ring (hring : s.map.ring = []) : (firstJoined j start o res s).map.ring = [firstRecord j start o res s] := by
  rw [firstJoined_map start o res hring]

/-- A station that the job does not list waits, with SKIPPED at the first repeat (R22). -/
theorem firstAtStations_unlisted (hring : s.map.ring = []) (harm : armedJob s = some j) {st : Station} (he : j.entry st = none)
    (hoff : (s.register.get st).state = .off → s.register.get st = StationRecord.off) :
    (firstAtStations j start o res s).map.ring.map (stationReading st) = [(s.pos.nextSerial, .skipped)]
      ∧ cursorRepeat st (firstAtStations j start o res s) = none := by
  have hresult := firstRecord_result (s := s) (j := j) (start := start) (o := o) (res := res) st
  rw [he, Option.isSome_none, if_neg Bool.false_ne_true] at hresult
  obtain ⟨hseen, hcur⟩ := stationsAtCreation_unlisted (st := st) (firstJoined_ring (start := start) (o := o) (res := res) hring)
    (jobOf_firstRecord harm) he (by rw [hresult]; decide) (by rw [firstJoined_register]; exact hoff)
  rw [← firstAtStations] at hseen hcur
  refine ⟨?_, waits_of_seenBy hseen hcur⟩
  rw [reading_of_seenBy hseen, stationReading, hresult]
  rfl

/-- A station that the job lists holds PENDING at a first repeat that it does not skip; when it starts there, its window is
placed (R60, R63). -/
theorem firstAtStations_listed (hring : s.map.ring = []) (harm : armedJob s = some j) {st : Station} {e : StationEntry}
    (he : j.entry st = some e) (hs : skipTest st (firstRecord j start o res s) = false) (hg : GoodLengths j)
    (hw : s.pos.highWater ≤ start) :
    (firstAtStations j start o res s).map.ring.map (Repeat.seenBy st) = [(firstRecord j start o res s).seenBy st]
      ∧ (s.register.get st = StationRecord.off → (firstAtStations j start o res s).register.get st
        = { startedRecord (firstRecord j start o res s) with window := some { centre := start + e.offset, halfWidth := j.halfWindow } }) := by
  have hresult := firstRecord_result (s := s) (j := j) (start := start) (o := o) (res := res) st
  rw [he, Option.isSome_some, if_pos rfl] at hresult
  have hlisted := stationsAtCreation_listed (st := st) (firstJoined_ring (start := start) (o := o) (res := res) hring)
    (jobOf_firstRecord harm) he rfl hresult hs hg (by rw [firstJoined_pos]; exact hw)
  rw [← firstAtStations, firstJoined_register] at hlisted
  exact hlisted

/-- A station that starts at a first repeat that it skips waits at the next serial, with SKIPPED at the first (R60, R64). -/
theorem firstAtStations_skipped (hring : s.map.ring = []) (harm : armedJob s = some j) {st : Station} {e : StationEntry}
    (he : j.entry st = some e) (hs : skipTest st (firstRecord j start o res s) = true) (hoff : s.register.get st = StationRecord.off) :
    (firstAtStations j start o res s).map.ring.map (stationReading st) = [(s.pos.nextSerial, .skipped)]
      ∧ cursorRepeat st (firstAtStations j start o res s) = none
      ∧ (firstAtStations j start o res s).register.get st
        = { startedRecord (firstRecord j start o res s) with cursor := some (s.pos.nextSerial + 1) } := by
  have hresult := firstRecord_result (s := s) (j := j) (start := start) (o := o) (res := res) st
  rw [he, Option.isSome_some, if_pos rfl] at hresult
  obtain ⟨⟨r, hr, hser, hres⟩, hreg⟩ := stationsAtCreation_skipped (st := st) (firstJoined_ring (start := start) (o := o) (res := res) hring)
    (jobOf_firstRecord harm) he rfl hresult hs (by rw [firstJoined_register]; exact hoff)
  have hserial : (firstRecord j start o res s).serial = s.pos.nextSerial := rfl
  rw [← firstAtStations] at hr hreg
  rw [hserial] at hser hreg
  refine ⟨by rw [hr, List.map_singleton, stationReading, hser, hres], cursorRepeat_only_none hr ?_, hreg⟩
  rw [hreg, hser]
  simp

/-- While the first repeat's nip position lies ahead, the nip takes nothing from the stations at its creation (R90). -/
theorem firstTakenUp_of_nipAhead (harm : armedJob s = some j) {st : Station}
    (hseen : (firstAtStations j start o res s).map.ring.map (Repeat.seenBy st) = [(firstRecord j start o res s).seenBy st])
    (hnip : s.pos.highWater < start + s.jobs.geometry.eNip) :
    StationKept st (firstAtStations j start o res s) (firstTakenUp j start o res s) := by
  obtain ⟨r, hr, hsee⟩ := ring_of_seenBy hseen
  have hstart : r.start = start := (seenBy_fields hsee).2.1
  have hgeometry : (firstAtStations j start o res s).jobs.geometry = s.jobs.geometry := by
    rw [firstAtStations, stationsAtCreation_jobs, firstJoined_jobs start o res harm, slotsAfterCreation, harm]
  refine .nipAhead hr ?_ st _
  rw [hgeometry, hstart, firstAtStations, stationsAtCreation_pos, firstJoined_pos]
  exact hnip

/-- The stations at the first repeat (R22, R60, R63, R64). -/
theorem FirstCreation.stations (h : FirstCreation j start o res s u) (hring : s.map.ring = []) (harm : armedJob s = some j) :
    StationsMeet s j start o u := by
  intro rec hrec st
  have hskip := skipTest_firstRecord (s := s) (j := j) (start := start) (o := o) (res := res) st
  rw [h.excluded hrec] at hskip
  have hwaiting (hwaits : cursorRepeat st (firstAtStations j start o res s) = none) :
      StationKept st (firstAtStations j start o res s) (firstTakenUp j start o res s) :=
    .nipAtCreation (fun h7 => h7 ▸ hwaits) _
  refine ⟨fun hoff he => ?_, fun e he => ⟨fun ho hex hw hnip hg => ?_, fun hex _ hoff => ?_⟩⟩
  · obtain ⟨hread, hwaits⟩ := firstAtStations_unlisted (start := start) (o := o) (res := res) hring harm he hoff
    exact h.result (hwaiting hwaits) hread hrec
  · subst ho
    rw [hex] at hskip
    obtain ⟨hseen, hstarted⟩ := firstAtStations_listed hring harm he hskip hg hw
    have hkept := firstTakenUp_of_nipAhead harm hseen hnip
    have hread := reading_of_seenBy hseen
    rw [stationReading, firstRecord_result, he, Option.isSome_some, if_pos rfl] at hread
    exact ⟨h.result hkept hread hrec, fun _ hoff => (h.station hkept).trans (hstarted hoff)⟩
  · have hs : skipTest st (firstRecord j start o res s) = true := by
      rw [hskip]
      rcases hex with ho | hx
      · simp [ho]
      · simp [hx]
    obtain ⟨hread, hwaits, hstarted⟩ := firstAtStations_skipped hring harm he hs hoff
    exact ⟨h.result (hwaiting hwaits) hread hrec, (h.station (hwaiting hwaits)).trans hstarted⟩

end

end Sys2Proof.Machine

/-! O7: a mark in SEEKING. -/

namespace Sys2Proof.Machine

open Sys2Proof

/-! ### A mark that creates the first repeat -/

theorem markedRepeat_of_found {s : State} (h : s.pos.ref.state ≠ .lost) (j : JobRecord) (err : Int) :
    markedRepeat j err s = markedState j err s := by
  have href := (StaysPlaced.createRepeat j s.pos.linePos .marked (.matched err) s).ref
  simp only [markedRepeat, markedState, href, if_neg h]

theorem takeReferenceMark_seeking {s : State} {j : JobRecord} (hseek : s.pos.ref.state = .seeking) (harm : armedJob s = some j) :
    takeReferenceMark s = markedState j 0 s := by
  rw [← markedRepeat_of_found (by rw [hseek]; decide)]
  simp only [takeReferenceMark, hseek, harm]

/-- A creation goes on as it was in a state that differs in the reference's record, the speed authority and CLAIM_CHANGE. -/
theorem FirstCreation.of_alike {j : JobRecord} {start : Nat} {o : Origin} {res : StationResult} {s t u : State}
    (h : FirstCreation j start o res s t) (hpos : ∃ r, u.pos = { t.pos with ref := r }) (hmap : u.map = t.map) (hjobs : u.jobs = t.jobs)
    (hshade : u.shade = t.shade) (hreg : u.register = t.register) (hn : ∀ k, k ≠ .claimChange → NotRaised k t u) :
    FirstCreation j start o res s u := by
  obtain ⟨r, hpos⟩ := hpos
  exact ⟨by rw [hpos]; exact h.serial, by rw [hpos]; exact h.splices, by rw [hpos]; exact h.highWater, hjobs.trans h.jobs,
    hshade.trans h.shade, hreg.trans h.register, fun k hk => (h.notices k hk).trans (hn k hk), by rw [hmap]; exact h.extent,
    by rw [hmap]; exact h.ring⟩

section

variable {s : State} {j : JobRecord}

theorem markedState_first (hring : s.map.ring = []) (harm : armedJob s = some j) (htail : s.jobs.tail = none) :
    FirstCreation j s.pos.linePos .marked (.matched 0) s (markedState j 0 s) := by
  have h := firstCreation (start := s.pos.linePos) (o := .marked) (res := .matched 0) hring harm htail
  rw [markedState]
  generalize createRepeat j s.pos.linePos .marked (.matched 0) s = t at h ⊢
  exact h.of_alike ⟨_, rfl⟩ rfl rfl rfl rfl fun _ _ _ => rfl

theorem markedState_ref : (markedState j 0 s).pos.ref
    = { state := .locked, newestStart := some s.pos.linePos, synthRun := 0, lastError := 0, strays := s.pos.ref.strays } := rfl

/-- The state after a mark in SEEKING, the crossings that follow aside, is the creation with the reference LOCKED (R6, R11). -/
theorem firstMark (hseek : s.pos.ref.state = .seeking) (harm : armedJob s = some j) (hring : s.map.ring = [])
    (htail : s.jobs.tail = none) :
    (asEvent takeReferenceMark s).pos.ref
        = { state := .locked, newestStart := some s.pos.linePos, synthRun := 0, lastError := 0, strays := s.pos.ref.strays }
      ∧ FirstCreation j s.pos.linePos .marked (.matched 0) (withEventClosed s) (asEvent takeReferenceMark s) := by
  have hmark : takeReferenceMark (withEventClosed s) = markedState j 0 (withEventClosed s) := takeReferenceMark_seeking hseek harm
  have hfirst : FirstCreation j s.pos.linePos .marked (.matched 0) (withEventClosed s) (markedState j 0 (withEventClosed s)) :=
    markedState_first (s := withEventClosed s) hring harm htail
  have hreads {β : Type} {p : State → β} (hl : ∀ s v, p (s.withLink v) = p s) (hm : ∀ s v, p (s.withModel v) = p s) :
      p (asEvent takeReferenceMark s) = p (markedState j 0 (withEventClosed s)) := by
    rw [asEvent_reads hl hm, hmark]
  have hpos := hreads (p := State.pos) (fun _ _ => rfl) (fun _ _ => rfl)
  refine ⟨?_, hfirst.of_alike ⟨(markedState j 0 (withEventClosed s)).pos.ref, by rw [hpos]⟩ (hreads (p := State.map) (fun _ _ => rfl) (fun _ _ => rfl))
    (hreads (p := State.jobs) (fun _ _ => rfl) (fun _ _ => rfl)) (hreads (p := State.shade) (fun _ _ => rfl) (fun _ _ => rfl))
    (hreads (p := State.register) (fun _ _ => rfl) (fun _ _ => rfl)) fun k hk m => ?_⟩
  · rw [hpos, markedState_ref]
    rfl
  · rw [asEvent_pendingCount hk, hmark]

/-- After the first repeat the job that was armed creates (R47). -/
theorem FirstCreation.jobsNow {start : Nat} {o : Origin} {res : StationResult} {u : State} (h : FirstCreation j start o res s u)
    (harm : armedJob s = some j) :
    u.jobs.head = some { record := j, firstSerial := s.pos.nextSerial } ∧ u.jobs.staged = none ∧ creatingJob u = some j := by
  have hjobs := h.jobs
  simp only [slotsAfterCreation, harm] at hjobs
  have hstaged : u.jobs.staged = none := by rw [hjobs]
  have hhead : u.jobs.head = some { record := j, firstSerial := s.pos.nextSerial } := by rw [hjobs]
  refine ⟨hhead, hstaged, ?_⟩
  have harmed : armedJob u = none := by simp only [armedJob, hstaged]
  rw [creatingJob_of_unarmed harmed, hhead]
  rfl

end

/-- A window end that lies ahead is not passed (R9). -/
theorem refEndPassed_of_window {u : State} {j : JobRecord} {p : Nat} (hstart : u.pos.ref.newestStart = some p)
    (hj : creatingJob u = some j) (hw : u.pos.highWater < p + j.length + j.halfWindow) : refEndPassed u = false := by
  unfold refEndPassed
  split
  · rfl
  · next w h =>
    obtain ⟨p', j', -, hp, hj', rfl⟩ := refWindow_eq_some h
    obtain rfl := Option.some.inj (hstart.symm.trans hp)
    obtain rfl := Option.some.inj (hj.symm.trans hj')
    exact decide_eq_false (Nat.not_le.mpr hw)

/-- Settles O7: the mark is one creation in an empty path, in which neither the nip nor the knife has a record before it; each
station takes its turn at the one record of the ring apart from the others. -/
theorem firstMarkCreatesRepeat : Obligations.FirstMarkCreatesRepeat := by
  unfold Obligations.FirstMarkCreatesRepeat
  intro s j hreset hseek harm hring htail
  obtain ⟨href, hfirst⟩ := firstMark hseek harm hring htail
  generalize hu : asEvent takeReferenceMark s = u at href hfirst
  obtain ⟨hhead, hstaged, hcreating⟩ := hfirst.jobsNow harm
  refine ⟨u, ?_, href, hhead, hstaged, hfirst.creates hring harm, hfirst.stations hring harm, fun hw => ?_⟩
  · rw [exec, execReferenceMark, unlessReset_of_high hreset, hu]
  · exact takeRefEnds_of_ahead (refEndPassed_of_window (by rw [href]) hcreating (by rw [hfirst.highWater]; exact hw)) _

end Sys2Proof.Machine

/-! What a request comes to whose effect is known: shared by the requests of the job unit. -/

namespace Sys2Proof.Machine

open Sys2Proof

/-- A permitted request of an allowed length, whose effect leaves the speed authority and the model's own fields, is its effect,
answered (R180). -/
theorem exec_of_serve {i : Instr} {m : Master} {tag : Byte} {r : Request} (hi : i.request = some (m, tag, r)) {s t : State}
    (hr : Ready s) (hp : permitted (requestName r) m = true) (hl : requestLengthOk r = true) {outcome : OutcomeCode}
    {values : List Byte} (hf : serve m r (beginAnswer s) = (beginAnswer t, { outcome := outcome, values := values }))
    (hg : t.speed = s.speed) (hm : t.model = s.model) :
    exec i s = .next (afterRequest r (answered m (requestName r) tag outcome values t)) := by
  obtain ⟨hreset, hlisten, hclear⟩ := hr
  have hnoticed : (beginAnswer s).model.embossNoticed = false := hclear
  have hevent : asEvent (fun x => (serve m r x).1) (beginAnswer s) = beginAnswer t := by
    rw [asEvent_of_granted (by rw [hf]; exact congrArg SpeedUnit.granted hg) hnoticed
      (by rw [hf]; exact (congrArg ModelFields.embossNoticed hm).trans hclear), hf]
  rw [exec_request_listening hi hreset hlisten]
  simp only [takeRequest, hp, hl, hevent, hf, Bool.not_true, Bool.false_eq_true, if_false]
  rfl

end Sys2Proof.Machine

/-! O35: Set Geometry. -/

namespace Sys2Proof.Machine

open Sys2Proof

theorem pathInUse_iff (s : State) :
    pathInUse s = true ↔ s.jobs.head.isSome = true ∨ s.jobs.tail.isSome = true ∨ (armedJob s).isSome = true := by
  simp only [pathInUse, Bool.or_eq_true, or_assoc]

theorem validGeometry_iff (g : Geometry) : validGeometry g = true ↔
    20000 ≤ g.dCut ∧ g.dCut ≤ 4000000 ∧ g.dSp ≤ 2000000 ∧ g.eNip ≤ 4000000 ∧ g.eNip < g.dCut := by
  simp only [validGeometry, Bool.and_eq_true, decide_eq_true_eq, and_assoc]

/-- SET_GEOMETRY whose effect is the state `t` (R41). -/
theorem exec_setGeometry_of_serve {s t : State} (hr : Ready s) (tag : Byte) {dCut dSp eNip : BitVec 32} {outcome : OutcomeCode}
    (hf : serveSetGeometry dCut dSp eNip (beginAnswer s) = (beginAnswer t, { outcome := outcome, values := [] }))
    (hg : t.speed = s.speed) (hm : t.model = s.model) :
    exec (.setGeometry .line tag dCut dSp eNip) s = .next (answered .line .setGeometry tag outcome [] t) :=
  exec_of_serve (r := .setGeometry dCut dSp eNip) rfl hr rfl rfl hf hg hm

/-- Settles O35. -/
theorem setGeometry : Obligations.SetGeometry := by
  intro s tag dCut dSp eNip hr
  have hused := pathInUse_iff (beginAnswer s)
  have hgood := validGeometry_iff { dCut := dCut.toNat, dSp := dSp.toNat, eNip := eNip.toNat }
  refine ⟨fun h => ?_, fun h hbad => ?_, fun h hok => ?_⟩
  · refine exec_setGeometry_of_serve hr tag ?_ rfl rfl
    simp only [serveSetGeometry, hused.mpr h, if_true, refusal]
  · refine exec_setGeometry_of_serve hr tag ?_ rfl rfl
    simp only [serveSetGeometry, mt hused.mp h, mt hgood.mp hbad, if_false, refusal, Bool.false_eq_true]
  · refine exec_setGeometry_of_serve hr tag ?_ rfl rfl
    simp only [serveSetGeometry, mt hused.mp h, hgood.mpr hok, if_true, if_false, okAnswer, Bool.false_eq_true]
    rfl

end Sys2Proof.Machine

/-! O38: Arm Job. -/

namespace Sys2Proof.Machine

open Sys2Proof

/-- ARM_JOB whose effect is the state `t`, with what is due then (R45, R46). -/
theorem exec_armJob_of_serve {s t : State} (hr : Ready s) (tag : Byte) {outcome : OutcomeCode} {values : List Byte}
    (hf : serveArmJob (beginAnswer s) = (beginAnswer t, { outcome := outcome, values := values }))
    (hg : t.speed = s.speed) (hm : t.model = s.model) :
    exec (.armJob .line tag) s = .next (drain (answered .line .armJob tag outcome values t)) :=
  exec_of_serve (r := .armJob) rfl hr rfl rfl hf hg hm

section

variable {s : State} {j : StagedJob}

theorem judgeArm_unstaged (h : s.jobs.staged = none) : judgeArm s = .noJob := by
  simp only [judgeArm, h]

theorem judgeArm_busy (h : s.jobs.staged = some j) (hb : s.jobs.tail.isSome = true ∨ j.armed = true) : judgeArm s = .busy := by
  simp only [judgeArm, h, Bool.or_eq_true, hb, if_true]

theorem judgeArm_sameNumber (h : s.jobs.staged = some j) (hb : ¬(s.jobs.tail.isSome = true ∨ j.armed = true))
    (hs : ∃ h, s.jobs.head = some h ∧ h.record.number = j.record.number) : judgeArm s = .badValue := by
  obtain ⟨head, hhead, hnumber⟩ := hs
  simp only [judgeArm, h, Bool.or_eq_true, hb, hhead, Option.map_some, hnumber, if_true, if_false]

/-- With another number than the head job's, the job check decides (R45). -/
theorem judgeArm_otherNumber (h : s.jobs.staged = some j) (hb : ¬(s.jobs.tail.isSome = true ∨ j.armed = true))
    (hs : ¬∃ h, s.jobs.head = some h ∧ h.record.number = j.record.number) : judgeArm s =
      if jobCheck s.jobs.geometry.dCut (s.jobs.head.map (·.record)) j.record = true then .ok else .badValue := by
  have hs' : ¬(s.jobs.head.map fun h => h.record.number) = some j.record.number := by
    rwa [Option.map_eq_some_iff]
  simp only [judgeArm, h, Bool.or_eq_true, hb, hs', if_false]

/-- An Arm Job that is not judged OK is refused with its code. -/
theorem serveArmJob_refused {code : OutcomeCode} (h : judgeArm s = code) (hc : code ≠ .ok) :
    serveArmJob s = (s, { outcome := code, values := [] }) := by
  unfold serveArmJob
  split
  · next hok _ => exact absurd (h.symm.trans hok) hc
  · rw [h]; rfl

theorem serveArmJob_ok (h : judgeArm s = .ok) (hj : s.jobs.staged = some j) :
    serveArmJob s = (armStaged s,
      { outcome := .ok, values := bytesOf 2 (armBound s.jobs.geometry.dCut (s.jobs.head.map (·.record)) j.record) }) := by
  simp only [serveArmJob, h, hj, okAnswer]

/-- The staged record armed and, with no head job, the reference SEEKING (R46, R5). -/
theorem armStaged_eq (h : s.jobs.staged = some j) :
    armStaged s = (s.withJobs { s.jobs with staged := some { j with armed := true } }).withPos
      { s.pos with ref := if s.jobs.head = none then { s.pos.ref with state := .seeking } else s.pos.ref } := by
  have hmark : markArmed true s.jobs = { s.jobs with staged := some { j with armed := true } } := by
    simp only [markArmed, h, Option.map_some]
  simp only [armStaged, hmark, Option.isNone_iff_eq_none]
  split <;> rfl

end

/-- Settles O38. -/
theorem armJob : Obligations.ArmJob := by
  intro s tag hr
  have refused {code : OutcomeCode} (hj : judgeArm (beginAnswer s) = code) (hc : code ≠ .ok) :
      exec (.armJob .line tag) s = .next (drain (answered .line .armJob tag code [] s)) :=
    exec_armJob_of_serve hr tag (serveArmJob_refused hj hc) rfl rfl
  refine ⟨fun h => refused (judgeArm_unstaged h) (by decide), fun j h => ⟨fun hb => ?_, fun hb hbad => ?_, fun hb hs hfits => ?_⟩⟩
  · exact refused (judgeArm_busy h hb) (by decide)
  · by_cases hs : ∃ h, s.jobs.head = some h ∧ h.record.number = j.record.number
    · exact refused (judgeArm_sameNumber h hb hs) (by decide)
    · exact refused ((judgeArm_otherNumber h hb hs).trans (if_neg (hbad.resolve_left hs))) (by decide)
  · have hok : judgeArm (beginAnswer s) = .ok := (judgeArm_otherNumber h hb hs).trans (if_pos hfits)
    exact exec_armJob_of_serve hr tag ((serveArmJob_ok hok h).trans (by rw [armStaged_eq (s := beginAnswer s) h]; rfl)) rfl rfl

end Sys2Proof.Machine

/-! Sorting by a key, and the numbers in a payload: what the job record's reading rests on. -/

namespace Sys2Proof.Machine

open Sys2Proof

/-! ### Sorting by a key -/

section

variable {α : Type} (key : α → Nat)

/-- The keys after an insertion are those of an insertion by value. -/
theorem insertBy_map_key (x : α) (xs : List α) : (insertBy key x xs).map key = insertBy id (key x) (xs.map key) := by
  induction xs with
  | nil => rfl
  | cons y ys ih =>
    simp only [insertBy, List.map_cons, id]
    split
    · rfl
    · rw [List.map_cons, ih]

theorem foldl_insertBy_perm (xs acc : List α) : (xs.foldl (fun acc x => insertBy key x acc) acc).Perm (xs ++ acc) := by
  induction xs generalizing acc with
  | nil => exact .refl _
  | cons x xs ih => exact (ih _).trans (((insertBy_perm key x acc).append_left xs).trans List.perm_middle)

theorem sortBy_perm (xs : List α) : (sortBy key xs).Perm xs := by
  simpa only [sortBy, List.append_nil] using foldl_insertBy_perm key xs []

theorem foldl_insertBy_ascending (xs : List α) {acc : List α} (h : (acc.map key).Pairwise (· ≤ ·)) :
    ((xs.foldl (fun acc x => insertBy key x acc) acc).map key).Pairwise (· ≤ ·) := by
  induction xs generalizing acc with
  | nil => exact h
  | cons x xs ih => exact ih (by rw [insertBy_map_key]; exact insertBy_pairwise_le _ h)

theorem sortBy_ascending (xs : List α) : (sortBy key xs).Pairwise (fun a b => key a ≤ key b) :=
  List.pairwise_map.mp (foldl_insertBy_ascending key xs List.Pairwise.nil)

/-- The first element of an ascending list that passes a test has the least key of those that pass. -/
theorem find_key_le_of_ascending {xs : List α} (h : xs.Pairwise (fun a b => key a ≤ key b)) {q : α → Bool} {e : α}
    (he : xs.find? q = some e) {x : α} (hx : x ∈ xs) (hq : q x = true) : key e ≤ key x := by
  obtain ⟨-, before, after, rfl, hbefore⟩ := List.find?_eq_some_iff_append.mp he
  have hleast := (List.pairwise_cons.mp (List.pairwise_append.mp h).2.1).1
  rcases List.mem_append.mp hx with hx | hx
  · exact absurd hq (by simpa using hbefore x hx)
  · rcases List.mem_cons.mp hx with rfl | hx
    · exact Nat.le_refl _
    · exact hleast x hx

end

/-! ### Numbers in a payload (R192) -/

/-- A number of one byte is that byte. -/
theorem fieldAt_one {p : List Byte} {o : Nat} (h : o < p.length) : fieldAt o 1 p = p[o].toNat := by
  rw [fieldAt, List.drop_eq_getElem_cons h]
  simp only [List.take_succ_cons, List.take_zero, natOfBytes, List.foldl_cons, List.foldl_nil, Nat.zero_mul, Nat.zero_add]

theorem fieldAt_one_lt {p : List Byte} {o : Nat} (h : o < p.length) : fieldAt o 1 p < 256 := by
  rw [fieldAt_one h]
  exact p[o].isLt

/-- A division rounded up is the one number between its bounds. -/
theorem ceilDiv_eq_iff {a d n : Nat} (hd : 0 < d) : ceilDiv a d = n ↔ a ≤ n * d ∧ n * d < a + d := by
  rw [ceilDiv, Nat.div_eq_iff hd]
  omega

/-- n_roll of the payload's L_mm and R (R43). -/
theorem isStandardRepeats_iff {p : List Byte} (h : 0 < fieldAt 14 2 p) (n : Nat) :
    IsStandardRepeats p n ↔ standardRepeats (fieldAt 21 2 p) (fieldAt 14 2 p) = n := by
  rw [standardRepeats, ceilDiv_eq_iff h, IsStandardRepeats]

/-- A condition on n_roll that 0 fails is the same condition on what the model computes; with R = 0 no number is n_roll, and the
model's is 0. -/
theorem exists_isStandardRepeats_iff {p : List Byte} {Q : Nat → Prop} (hQ : ¬Q 0) :
    (∃ n, IsStandardRepeats p n ∧ Q n) ↔ Q (standardRepeats (fieldAt 21 2 p) (fieldAt 14 2 p)) := by
  rcases Nat.eq_zero_or_pos (fieldAt 14 2 p) with h | h
  · have hnone (n : Nat) : ¬IsStandardRepeats p n := fun hn => by
      simp only [IsStandardRepeats, h, Nat.mul_zero, Nat.add_zero] at hn
      omega
    have hzero : standardRepeats (fieldAt 21 2 p) (fieldAt 14 2 p) = 0 := by rw [standardRepeats, ceilDiv, h, Nat.div_zero]
    rw [hzero]
    exact ⟨fun ⟨n, hn, _⟩ => absurd hn (hnone n), fun hq => absurd hq hQ⟩
  · simp only [isStandardRepeats_iff h, exists_eq_left']

end Sys2Proof.Machine

/-! The fields of a Load Job payload and their checks (R42, R194). -/

namespace Sys2Proof.Machine

open Sys2Proof

/-! ### The pattern code (field 2) -/

/-- The characters of a pattern field are the bytes before its zeros. -/
theorem patternChars_eq_take {bs : List Byte} {k : Nat} (h : ∀ i (hi : i < bs.length), i < k ↔ bs[i] ≠ 0) :
    patternChars bs = bs.take k := by
  have hchars : ∀ b ∈ bs.take k, (b != 0) = true := fun b hb => by
    obtain ⟨i, hi, rfl⟩ := List.mem_take_iff_getElem.mp hb
    simpa using (h i (by omega)).mp (by omega)
  have hrest : (bs.drop k).takeWhile (fun b => b != 0) = [] := by
    refine List.takeWhile_eq_nil_iff.mpr fun hl => ?_
    have hk : k < bs.length := by simpa using hl
    simpa using (h k hk).not.mp (Nat.lt_irrefl k)
  have hsplit := List.takeWhile_append_of_pos (l₂ := bs.drop k) hchars
  rwa [List.take_append_drop, hrest, List.append_nil] at hsplit

/-- A pattern of `k` characters from 0x20 to 0x7E, then 0x00 alone. -/
def PatternOf (k : Nat) (bs : List Byte) : Prop :=
  (∀ i (_ : i < bs.length), i < k → 0x20 ≤ bs[i].toNat ∧ bs[i].toNat ≤ 0x7E) ∧ ∀ i (_ : i < bs.length), k ≤ i → bs[i] = 0

theorem PatternOf.lt_iff {k : Nat} {bs : List Byte} (h : PatternOf k bs) (i : Nat) (hi : i < bs.length) : i < k ↔ bs[i] ≠ 0 := by
  obtain ⟨hchars, hzeros⟩ := h
  refine ⟨fun hlt h0 => ?_, fun hne => Nat.lt_of_not_le fun hle => hne (hzeros i hi hle)⟩
  have hrange := (hchars i hi hlt).1
  rw [h0] at hrange
  exact absurd hrange (by decide)

theorem validPattern_iff (bs : List Byte) : validPattern bs = true ↔ ∃ k, 1 ≤ k ∧ k ≤ bs.length ∧ PatternOf k bs := by
  simp only [validPattern, Bool.and_eq_true, bne_iff_ne, List.all_eq_true, within, decide_eq_true_eq, beq_iff_eq]
  constructor
  · rintro ⟨⟨hne, hchars⟩, hzeros⟩
    have hfront : patternChars bs <+: bs := List.takeWhile_prefix _
    refine ⟨(patternChars bs).length, List.length_pos_iff.mpr hne, hfront.length_le, fun i hi hlt => ?_, fun i hi hle => ?_⟩
    · rw [← hfront.getElem hlt]
      exact hchars _ (List.getElem_mem hlt)
    · exact hzeros _ (List.mem_drop_iff_getElem.mpr ⟨i - (patternChars bs).length, by omega, by simp only [Nat.add_sub_cancel' hle]⟩)
  · rintro ⟨k, h1, hk, h⟩
    rw [patternChars_eq_take h.lt_iff]
    refine ⟨⟨?_, fun b hb => ?_⟩, fun b hb => ?_⟩
    · exact List.length_pos_iff.mp (by rw [List.length_take]; omega)
    · obtain ⟨i, hi, rfl⟩ := List.mem_take_iff_getElem.mp hb
      exact h.1 i (by omega) (by omega)
    · obtain ⟨i, hi, rfl⟩ := List.mem_drop_iff_getElem.mp hb
      exact h.2 _ _ (by rw [List.length_take]; omega)

section

variable {p : List Byte}

/-- The pattern field of a payload that reaches it. -/
theorem patternField_getElem (hp : 14 ≤ p.length) (i : Nat) (hi : i < ((p.drop 2).take 12).length) :
    ((p.drop 2).take 12)[i].toNat = fieldAt (2 + i) 1 p := by
  have hlen : ((p.drop 2).take 12).length ≤ 12 := List.length_take_le _ _
  rw [fieldAt_one (by omega), List.getElem_take, List.getElem_drop]

theorem patternField_length (hp : 14 ≤ p.length) : ((p.drop 2).take 12).length = 12 := by
  rw [List.length_take, List.length_drop]
  omega

theorem patternOf_iff (hp : 14 ≤ p.length) (k : Nat) : PatternOf k ((p.drop 2).take 12) ↔
    ∀ i < 12, if i < k then 0x20 ≤ fieldAt (2 + i) 1 p ∧ fieldAt (2 + i) 1 p ≤ 0x7E else fieldAt (2 + i) 1 p = 0 := by
  have hlen := patternField_length hp
  have hzero (i : Nat) (hi : i < ((p.drop 2).take 12).length) : ((p.drop 2).take 12)[i] = 0 ↔ fieldAt (2 + i) 1 p = 0 := by
    rw [← patternField_getElem hp i hi, ← BitVec.toNat_inj]
    rfl
  constructor
  · rintro ⟨hchars, hzeros⟩ i hi
    split
    · next hlt => exact patternField_getElem hp i (by omega) ▸ hchars i (by omega) hlt
    · next hge => exact (hzero i (by omega)).mp (hzeros i (by omega) (Nat.le_of_not_lt hge))
  · intro h
    refine ⟨fun i hi hlt => ?_, fun i hi hle => ?_⟩
    · simpa only [patternField_getElem hp, hlt, if_true] using h i (by omega)
    · exact (hzero i hi).mpr (by simpa only [Nat.not_lt.mpr hle, if_false] using h i (by omega))

theorem validPattern_rawJob_iff (hp : 14 ≤ p.length) : validPattern (rawJob p).pattern = true ↔ FieldValid p 2 := by
  simp only [rawJob, validPattern_iff, patternField_length hp, patternOf_iff hp, FieldValid]

/-- The pattern code read from a payload is its characters up to the first 0x00 (R194). -/
theorem patternChars_rawJob (hp : 14 ≤ p.length) (h : FieldValid p 2) :
    ∃ k, patternChars (rawJob p).pattern = (p.drop 2).take k ∧ k ≤ 12 ∧ ∀ i < 12, (i < k ↔ fieldAt (2 + i) 1 p ≠ 0) := by
  obtain ⟨k, -, hk, hpattern⟩ := (validPattern_iff _).mp ((validPattern_rawJob_iff hp).mpr h)
  have hpattern : PatternOf k ((p.drop 2).take 12) := hpattern
  have hlen := patternField_length hp
  have hk : k ≤ 12 := hlen ▸ hk
  refine ⟨k, ?_, hk, fun i hi => ?_⟩
  · exact (patternChars_eq_take hpattern.lt_iff).trans (by rw [List.take_take, Nat.min_eq_left hk])
  · rw [hpattern.lt_iff i (by omega), ← patternField_getElem hp i (by omega), ne_eq, ne_eq, ← BitVec.toNat_inj]
    rfl

/-! ### The station list (field 6) -/

theorem rawStations_perm (p : List Byte) : (rawJob p).stations.Perm ((List.range (stationCount p)).map (rawEntry p)) :=
  sortBy_perm _ _

theorem rawStations_ascending (p : List Byte) : (rawJob p).stations.Pairwise (fun a b => a.station ≤ b.station) :=
  sortBy_ascending _ _

theorem mem_rawStations {e : StationEntry} : e ∈ (rawJob p).stations ↔ ∃ i < stationCount p, rawEntry p i = e := by
  simp only [(rawStations_perm p).mem_iff, List.mem_map, List.mem_range]

theorem mem_rawStationNumbers {n : Nat} :
    n ∈ (rawJob p).stations.map (·.station) ↔ ∃ i, i < stationCount p ∧ (rawEntry p i).station = n := by
  simp only [List.mem_map, mem_rawStations]
  exact ⟨fun ⟨_, ⟨i, hi, he⟩, hn⟩ => ⟨i, hi, he ▸ hn⟩, fun ⟨i, hi, hn⟩ => ⟨_, ⟨i, hi, rfl⟩, hn⟩⟩

theorem distinct_iff_nodup (ns : List Nat) : distinct ns = true ↔ ns.Nodup := by
  induction ns with
  | nil => simp [distinct]
  | cons n ns ih => simp [distinct, ih]

/-- No two entries name one station exactly when the sorted list repeats none. -/
theorem rawStations_nodup_iff (p : List Byte) : ((rawJob p).stations.map (·.station)).Nodup ↔
    ∀ i < stationCount p, ∀ k < stationCount p, i ≠ k → (rawEntry p i).station ≠ (rawEntry p k).station := by
  rw [((rawStations_perm p).map _).nodup_iff, List.map_map, List.nodup_map_iff_inj_on List.nodup_range]
  simp only [List.mem_range, Function.comp]
  exact ⟨fun h i hi k hk hne he => hne (h i hi k hk he), fun h i hi k hk he => by_contra fun hne => h i hi k hk hne he⟩

theorem validStations_rawJob_iff (p : List Byte) : validStations (rawJob p) = true ↔ FieldValid p 6 := by
  have hrange : (∀ n ∈ (rawJob p).stations.map (·.station), n ≤ 7) ↔ ∀ i < stationCount p, (rawEntry p i).station ≤ 7 := by
    simp only [mem_rawStationNumbers]
    exact ⟨fun h i hi => h _ ⟨i, hi, rfl⟩, fun h n ⟨i, hi, he⟩ => he ▸ h i hi⟩
  have hemboss : (rawJob p).embossByte = fieldAt 29 1 p := rfl
  simp only [validStations, Bool.and_eq_true, List.all_eq_true, decide_eq_true_eq, distinct_iff_nodup, rawStations_nodup_iff, and_assoc]
  rw [hrange]
  simp only [List.contains_iff_mem, mem_rawStationNumbers, Bool.or_eq_true, Bool.not_eq_true', Bool.eq_false_iff, ne_eq, beq_iff_eq,
    hemboss]
  exact and_congr .rfl (and_congr .rfl (and_congr .rfl imp_iff_not_or.symm))

/-- With distinct stations the entries stand in strictly ascending order (R42). -/
theorem rawStations_strict (h : FieldValid p 6) : (rawJob p).stations.Pairwise (fun a b => a.station < b.station) := by
  obtain ⟨-, hdistinct, -⟩ := h
  have hne := List.pairwise_map.mp ((rawStations_nodup_iff p).mpr hdistinct)
  exact ((rawStations_ascending p).and hne).imp fun ⟨hle, hne⟩ => Nat.lt_of_le_of_ne hle hne

/-! ### What one check reports (R42) -/

/-- What the check of field `n` answers for a payload: nothing when the field is valid, and otherwise the field's number with, for
fields 7 to 10, the lowest station whose entry fails. -/
structure ReportsField (p : List Byte) (n : Nat) (c : Option BadField) : Prop where
  none_iff : c = none ↔ FieldValid p n
  field : ¬FieldValid p n → (n < 7 ∨ 10 < n) → c = some { field := n, station := none }
  entry : 7 ≤ n → n ≤ 10 → ∀ i < stationCount p, ¬EntryValid p i n →
    (∀ k < stationCount p, ¬EntryValid p k n → (rawEntry p i).station ≤ (rawEntry p k).station) →
    c = some { field := n, station := some (rawEntry p i).station }

theorem reportsField_of_iff {n : Nat} {good : Bool} (hn : n < 7 ∨ 10 < n) (h : good = true ↔ FieldValid p n) :
    ReportsField p n (checkField n good) where
  none_iff := by rw [← h]; cases good <;> simp [checkField]
  field hbad _ := by rw [checkField, if_neg (mt h.mp hbad)]
  entry h7 h10 := by omega

theorem within_iff (lo hi n : Nat) : within lo hi n = true ↔ lo ≤ n ∧ n ≤ hi := by
  simp only [within, Bool.and_eq_true, decide_eq_true_eq]

/-- A field that is valid from `lo` to `hi`. -/
theorem reportsField_range {n lo hi x : Nat} (hn : n < 7 ∨ 10 < n) (h : FieldValid p n ↔ lo ≤ x ∧ x ≤ hi) :
    ReportsField p n (checkField n (within lo hi x)) :=
  reportsField_of_iff hn ((within_iff lo hi x).trans h.symm)

/-- A field that is valid up to `hi`. -/
theorem reportsField_upTo {n hi x : Nat} (hn : n < 7 ∨ 10 < n) (h : FieldValid p n ↔ x ≤ hi) :
    ReportsField p n (checkField n (within 0 hi x)) :=
  reportsField_range hn (h.trans ⟨fun hx => ⟨Nat.zero_le x, hx⟩, And.right⟩)

/-- A field of the emboss part, which is checked only when field 17 is yes (R42). -/
theorem reportsField_emboss {n : Nat} {good : Bool} (hn : n < 7 ∨ 10 < n)
    (h : FieldValid p n ↔ (fieldAt 29 1 p = 1 → good = true)) :
    ReportsField p n (checkField n (!((rawJob p).embossByte == 1) || good)) := by
  have hbyte : (rawJob p).embossByte = fieldAt 29 1 p := rfl
  refine reportsField_of_iff hn (Iff.trans ?_ h.symm)
  simp only [hbyte, Bool.or_eq_true, Bool.not_eq_true', beq_eq_false_iff_ne, imp_iff_not_or, ne_eq]

/-- The lowest failing entry is the one that a check over ascending entries finds. -/
theorem failingStation_rawJob {valid : StationEntry → Bool} {i : Nat} (hi : i < stationCount p) (hbad : valid (rawEntry p i) = false)
    (hleast : ∀ k < stationCount p, valid (rawEntry p k) = false → (rawEntry p i).station ≤ (rawEntry p k).station) :
    failingStation valid (rawJob p) = some (rawEntry p i).station := by
  have hmem : rawEntry p i ∈ (rawJob p).stations := mem_rawStations.mpr ⟨i, hi, rfl⟩
  have hfails : (!valid (rawEntry p i)) = true := by rw [hbad]; rfl
  obtain ⟨e, he⟩ := Option.isSome_iff_exists.mp (List.find?_isSome (p := fun e => !valid e) |>.mpr ⟨_, hmem, hfails⟩)
  obtain ⟨k, hk, rfl⟩ := mem_rawStations.mp (List.mem_of_find?_eq_some he)
  have hkbad : valid (rawEntry p k) = false := by simpa using List.find?_some he
  have hle := find_key_le_of_ascending _ (rawStations_ascending p) he hmem hfails
  rw [failingStation, he, Option.map_some, Nat.le_antisymm hle (hleast k hk hkbad)]

theorem reportsField_entries {n : Nat} {valid : StationEntry → Bool} (h7 : 7 ≤ n) (h10 : n ≤ 10)
    (hfield : FieldValid p n ↔ ∀ i < stationCount p, EntryValid p i n)
    (hentry : ∀ i, valid (rawEntry p i) = true ↔ EntryValid p i n) : ReportsField p n (checkEntries n valid (rawJob p)) where
  none_iff := by
    simp only [checkEntries, failingStation, Option.map_eq_none_iff, List.find?_eq_none, mem_rawStations, hfield, ← hentry]
    exact ⟨fun h i hi => by simpa using h _ ⟨i, hi, rfl⟩, fun h e ⟨i, hi, he⟩ => by rw [← he, h i hi]; decide⟩
  field _ hn := by omega
  entry _ _ i hi hbad hleast := by
    simp only [← hentry, Bool.not_eq_true] at hbad hleast
    rw [checkEntries, failingStation_rawJob hi hbad hleast, Option.map_some]

/-! ### The checks in table order -/

theorem laneMask_toNat (hp : 52 ≤ p.length) : (rawJob p).laneMask.toNat = fieldAt 20 1 p :=
  Nat.mod_eq_of_lt (fieldAt_one_lt (by omega))

/-- The 28 checks answer for the 28 fields, each in its place (R42). -/
theorem fieldChecks_reportsField (hp : 52 ≤ p.length) : List.Forall₂ (ReportsField p) (List.range' 1 28) (fieldChecks (rawJob p)) := by
  have h4 : (within 50 2000 (fieldAt 16 2 p) && decide (4 * fieldAt 16 2 p < fieldAt 14 2 p)) = true ↔ FieldValid p 4 := by
    simp only [Bool.and_eq_true, within_iff, decide_eq_true_eq, and_assoc, FieldValid]
  have h7 (i : Nat) : (if (rawEntry p i).station = 0 then (rawEntry p i).offset == 0 else within 0 3999999 (rawEntry p i).offset) = true
      ↔ EntryValid p i 7 := by
    have hvalid : EntryValid p i 7 ↔ ((rawEntry p i).station = 0 → (rawEntry p i).offset = 0) ∧ (rawEntry p i).offset ≤ 3999999 := .rfl
    rw [hvalid]
    split
    · simp only [beq_iff_eq]
      omega
    · simp only [within_iff]
      omega
  have h12 : (within 5000 33000 (fieldAt 21 2 p) && within 2 1000 (standardRepeats (fieldAt 21 2 p) (fieldAt 14 2 p))) = true
      ↔ FieldValid p 12 := by
    simp only [Bool.and_eq_true, within_iff, and_assoc, FieldValid]
    rw [exists_isStandardRepeats_iff (Q := fun n => 2 ≤ n ∧ n ≤ 1000) (by omega)]
  have h14 : within 1 (standardRepeats (fieldAt 21 2 p) (fieldAt 14 2 p) - 1) (fieldAt 25 2 p) = true ↔ FieldValid p 14 := by
    simp only [within_iff, FieldValid]
    rw [exists_isStandardRepeats_iff (Q := fun n => fieldAt 25 2 p < n) (by omega)]
    omega
  have h18 : (within 0 8 (rawJob p).emboss.settle && decide ((rawJob p).emboss.settle ≤ (rawJob p).excludeAfter)) = true
      ↔ (rawJob p).emboss.settle ≤ 8 ∧ (rawJob p).emboss.settle ≤ (rawJob p).excludeAfter := by
    simp only [Bool.and_eq_true, within_iff, decide_eq_true_eq, Nat.zero_le, true_and]
  have h20 : within 0 4000 (rawJob p).emboss.minSpeed = true ↔ (rawJob p).emboss.minSpeed ≤ 4000 := by
    simp only [within_iff, Nat.zero_le, true_and]
  exact .cons (reportsField_range (by decide) .rfl) <|
    .cons (reportsField_of_iff (by decide) (validPattern_rawJob_iff (by omega))) <|
    .cons (reportsField_range (by decide) .rfl) <|
    .cons (reportsField_of_iff (by decide) h4) <|
    .cons (reportsField_range (by decide) .rfl) <|
    .cons (reportsField_of_iff (by decide) (validStations_rawJob_iff p)) <|
    .cons (reportsField_entries (by decide) (by decide) .rfl h7) <|
    .cons (reportsField_entries (by decide) (by decide) .rfl fun i => by simp [within_iff, rawEntry, EntryValid]) <|
    .cons (reportsField_entries (by decide) (by decide) .rfl fun i => by simp [within_iff, rawEntry, EntryValid]) <|
    .cons (reportsField_entries (by decide) (by decide) .rfl fun i => within_iff _ _ _) <|
    .cons (reportsField_range (by decide) (by rw [laneMask_toNat hp, FieldValid])) <|
    .cons (reportsField_of_iff (by decide) h12) <|
    .cons (reportsField_of_iff (by decide) decide_eq_true_iff) <|
    .cons (reportsField_of_iff (by decide) h14) <|
    .cons (reportsField_upTo (by decide) .rfl) <|
    .cons (reportsField_range (by decide) .rfl) <|
    .cons (reportsField_upTo (by decide) .rfl) <|
    .cons (reportsField_emboss (by decide) (imp_congr .rfl h18.symm)) <|
    .cons (reportsField_emboss (by decide) (imp_congr .rfl decide_eq_true_iff.symm)) <|
    .cons (reportsField_emboss (by decide) (imp_congr .rfl h20.symm)) <|
    .cons (reportsField_upTo (by decide) .rfl) <|
    .cons (reportsField_upTo (by decide) .rfl) <|
    .cons (reportsField_range (by decide) .rfl) <|
    .cons (reportsField_range (by decide) .rfl) <|
    .cons (reportsField_range (by decide) .rfl) <|
    .cons (reportsField_range (by decide) .rfl) <|
    .cons (reportsField_upTo (by decide) .rfl) <|
    .cons (reportsField_range (by decide) .rfl) .nil

/-- Of checks in table order the first answer is that of the first invalid field. -/
theorem reportsField_findSome {n a k : Nat} {cs : List (Option BadField)} (h : List.Forall₂ (ReportsField p) (List.range' a k) cs)
    (ha : a ≤ n) (hk : n < a + k) (hbefore : ∀ m, a ≤ m → m < n → FieldValid p m) (hbad : ¬FieldValid p n) :
    ReportsField p n (cs.findSome? id) := by
  induction k generalizing a cs with
  | zero => omega
  | succ k ih =>
    rw [List.range'_succ] at h
    obtain ⟨c, rest, hc, hrest, rfl⟩ := List.forall₂_cons_left_iff.mp h
    rcases Nat.eq_or_lt_of_le ha with rfl | hlt
    · obtain ⟨b, rfl⟩ := Option.ne_none_iff_exists'.mp (mt hc.none_iff.mp hbad)
      exact hc
    · rw [hc.none_iff.mpr (hbefore a (Nat.le_refl a) hlt)]
      exact ih (cs := rest) hrest hlt (by omega) fun m hm => hbefore m (by omega)

theorem firstBadField_reportsField (hp : 52 ≤ p.length) {n : Nat} (h1 : 1 ≤ n) (h28 : n ≤ 28) (hbad : ¬FieldValid p n)
    (hbefore : ∀ m, 1 ≤ m → m < n → FieldValid p m) : ReportsField p n (firstBadField (rawJob p)) :=
  reportsField_findSome (fieldChecks_reportsField hp) h1 (by omega) hbefore hbad

theorem firstBadField_eq_none (hp : 52 ≤ p.length) (h : ∀ n, 1 ≤ n → n ≤ 28 → FieldValid p n) : firstBadField (rawJob p) = none := by
  obtain ⟨hlen, hreports⟩ := List.forall₂_iff_get.mp (fieldChecks_reportsField hp)
  refine List.findSome?_eq_none_iff.mpr fun c hc => ?_
  obtain ⟨i, hi, rfl⟩ := List.mem_iff_getElem.mp hc
  have hi28 : i < 28 := by rw [List.length_range'] at hlen; omega
  have hreport := hreports i (by rw [List.length_range']; exact hi28) hi
  simp only [List.get_eq_getElem, List.getElem_range'] at hreport
  exact hreport.none_iff.mpr (h _ (by omega) (by omega))

/-! ### The record read -/

/-- A valid payload gives the record of its fields (R42, R194). -/
theorem recordRead_recordOf (hp : 52 ≤ p.length) (h2 : FieldValid p 2) (h6 : FieldValid p 6) : RecordRead p (recordOf (rawJob p)) := by
  refine ⟨rfl, patternChars_rawJob (by omega) h2, rfl, rfl, rfl, rawStations_perm p, rawStations_strict h6, fun l => ?_, rfl, rfl, rfl,
    rfl, rfl, rfl, rfl, rfl, rfl, rfl, rfl, rfl, rfl, rfl⟩
  have hlane : laneNumber l < 8 := by cases l <;> decide
  rw [recordOf, PerLane.get_tabulate]
  exact (BitVec.getLsbD_ofNat _ _ _).trans (by rw [decide_eq_true hlane, Bool.true_and])

theorem recordOf_standardRepeats (h3 : FieldValid p 3) : IsStandardRepeats p (recordOf (rawJob p)).standardRepeats := by
  obtain ⟨hlow, -⟩ := h3
  exact (isStandardRepeats_iff (by omega) _).mpr rfl

end

end Sys2Proof.Machine

/-! O36: Load Job. -/

namespace Sys2Proof.Machine

open Sys2Proof

theorem jobLengthAgrees_iff (p : List Byte) : jobLengthAgrees p = true ↔ 1 ≤ fieldAt 19 1 p ∧ fieldAt 19 1 p ≤ 8
    ∧ p.length = 43 + 9 * fieldAt 19 1 p + (if fieldAt 29 1 p = 1 then 5 else 0) := by
  simp only [jobLengthAgrees, agreedLength, embossPresent, Bool.and_eq_true, decide_eq_true_eq, beq_iff_eq, and_assoc]
  exact .rfl

theorem badFieldBytes_field (n : Nat) : badFieldBytes { field := n, station := none } = [BitVec.ofNat 8 n, 0, 0] := by
  simp [badFieldBytes, bytesOf, optBytes]

theorem badFieldBytes_entry (n st : Nat) :
    badFieldBytes { field := n, station := some st } = [BitVec.ofNat 8 n, 1, BitVec.ofNat 8 st] := by
  simp [badFieldBytes, bytesOf, optBytes]

section

variable {s : State} {p : List Byte}

/-- LOAD_JOB whose effect is the state `t` (R43). -/
theorem exec_loadJob_of_serve {t : State} (hr : Ready s) (tag : Byte) (h52 : 52 ≤ p.length) (h120 : p.length ≤ 120)
    {outcome : OutcomeCode} {values : List Byte}
    (hf : serveLoadJob p (beginAnswer s) = (beginAnswer t, { outcome := outcome, values := values }))
    (hg : t.speed = s.speed) (hm : t.model = s.model) :
    exec (.loadJob .line tag p) s = .next (answered .line .loadJob tag outcome values t) := by
  have hlength : requestLengthOk (.loadJob p) = true :=
    (Bool.and_eq_true _ _).mpr ⟨decide_eq_true h52, decide_eq_true h120⟩
  exact exec_of_serve (r := .loadJob p) rfl hr rfl hlength hf hg hm

theorem serveLoadJob_malformed (h : ¬jobLengthAgrees p = true) : serveLoadJob p s = (s, { outcome := .malformed, values := [] }) := by
  simp only [serveLoadJob, h, Bool.not_false, if_true, refusal]

theorem serveLoadJob_busy (h : jobLengthAgrees p = true) (ha : (armedJob s).isSome = true) :
    serveLoadJob p s = (s, { outcome := .busy, values := [] }) := by
  simp only [serveLoadJob, h, ha, Bool.not_true, Bool.false_eq_true, if_false, if_true, refusal]

/-- The first bad field decides on an agreeing payload with no job armed (R43). -/
theorem serveLoadJob_badField (h : jobLengthAgrees p = true) (ha : armedJob s = none) {b : BadField}
    (hb : firstBadField (rawJob p) = some b) : serveLoadJob p s = (s, { outcome := .badValue, values := badFieldBytes b }) := by
  simp only [serveLoadJob, h, ha, hb, Option.isSome_none, Bool.not_true, Bool.false_eq_true, if_false]

theorem serveLoadJob_staged (h : jobLengthAgrees p = true) (ha : armedJob s = none) (hb : firstBadField (rawJob p) = none) :
    serveLoadJob p s = (stageJob (recordOf (rawJob p)) s,
      { outcome := .ok, values := bytesOf 2 (recordOf (rawJob p)).standardRepeats }) := by
  simp only [serveLoadJob, h, ha, hb, Option.isSome_none, Bool.not_true, Bool.false_eq_true, if_false, okAnswer]

end

/-- Settles O36. -/
theorem loadJob : Obligations.LoadJob := by
  intro s tag p hr h52 h120
  have hagrees := jobLengthAgrees_iff p
  refine ⟨fun h => ?_, fun h ha => ?_, fun h ha n h1 h28 hbad hbefore => ?_, fun h ha hvalid => ?_⟩
  · exact exec_loadJob_of_serve hr tag h52 h120 (serveLoadJob_malformed (mt hagrees.mp h)) rfl rfl
  · exact exec_loadJob_of_serve hr tag h52 h120 (serveLoadJob_busy (hagrees.mpr h) ha) rfl rfl
  · have hreport := firstBadField_reportsField h52 h1 h28 hbad hbefore
    have refused {b : BadField} (hb : firstBadField (rawJob p) = some b) :
        exec (.loadJob .line tag p) s = .next (answered .line .loadJob tag .badValue (badFieldBytes b) s) :=
      exec_loadJob_of_serve hr tag h52 h120 (serveLoadJob_badField (s := beginAnswer s) (hagrees.mpr h) ha hb) rfl rfl
    refine ⟨fun hn => ?_, fun h7 h10 i hi hentry hleast => ?_⟩
    · exact badFieldBytes_field n ▸ refused (hreport.field hbad hn)
    · exact badFieldBytes_entry n _ ▸ refused (hreport.entry h7 h10 i hi hentry hleast)
  · refine ⟨_, _, recordOf_standardRepeats (hvalid 3 (by decide) (by decide)),
      recordRead_recordOf h52 (hvalid 2 (by decide) (by decide)) (hvalid 6 (by decide) (by decide)), ?_⟩
    exact exec_loadJob_of_serve hr tag h52 h120 (serveLoadJob_staged (hagrees.mpr h) ha (firstBadField_eq_none h52 hvalid)) rfl rfl

end Sys2Proof.Machine

/-! O56, the laws of the speed authority: arbitration's law after one run, and the agreement of the internal claims with their
conditions under the changes of one block. -/

namespace Sys2Proof.Machine

open Sys2Proof

/-! ### Arbitration's law (R166, R168, R170) -/

/-- Whatever a run of arbitration starts from, its end meets arbitration's law. -/
theorem RunsArbitration.arbitrated {u v : SpeedUnit} (h : RunsArbitration u v) (hrun : v.runSpeed ≤ Config.speedMax)
    (hcrawl : v.crawlSpeed ≤ Config.speedMax) : Arbitrated v := by
  obtain ⟨hkeeps, hafresh, hnone, hsome⟩ := h
  refine ⟨?_, hrun, hcrawl⟩
  by_cases hkept : ∃ a, u.active = some a ∧ eligible v a = true ∧ slotLevel u a ≤ slotLevel v a
      ∧ ∀ k, eligible v k = true → slotLevel v k ≤ slotLevel v a
  · obtain ⟨a, ha, helig, hle, hmax⟩ := hkept
    have hactive := hkeeps a ha helig hle hmax
    simp only [hactive]
    exact ⟨helig, hmax, fun c hc => hsome a c hactive hc⟩
  · have hchosen := hafresh fun a ha hk => hkept ⟨a, ha, hk⟩
    cases hactive : v.active with
    | none =>
      rw [hactive] at hchosen
      exact ⟨hchosen, hnone hactive⟩
    | some a =>
      rw [hactive] at hchosen
      obtain ⟨helig, hbest⟩ := hchosen
      exact ⟨helig, fun k hk => (hbest k hk).elim Nat.le_of_lt fun h => Nat.le_of_eq h.1, fun c hc => hsome a c hactive hc⟩

theorem Arbitrated.speeds {u : SpeedUnit} (h : Arbitrated u) : u.runSpeed ≤ Config.speedMax ∧ u.crawlSpeed ≤ Config.speedMax := h.2

/-- A run of arbitration that leaves both settings. -/
theorem Arbitrated.of_runs {u v : SpeedUnit} (h : Arbitrated u) (hk : SettingsKept u v) (hr : RunsArbitration u v) : Arbitrated v := by
  obtain ⟨-, hrun, hcrawl⟩ := hk
  obtain ⟨h1, h2⟩ := h.speeds
  exact hr.arbitrated (hrun ▸ h1) (hcrawl ▸ h2)

theorem Arbitrated.changeSlot {u : SpeedUnit} (h : Arbitrated u) (k : Slot) (c : Option ClaimValue) : Arbitrated (changeSlot k c u) :=
  h.of_runs (changeSlot_settings k c u) (changeSlot_runs k c u)

theorem Arbitrated.releaseInternal {u : SpeedUnit} (h : Arbitrated u) : Arbitrated (releaseInternal u) :=
  h.of_runs (releaseInternal_settings u) (releaseInternal_runs u)

/-- New speeds leave the ACTIVE slot in its place, and the granted speed is recomputed (R168, R170). -/
theorem Arbitrated.recomputeGranted {u v : SpeedUnit} (h : Arbitrated u) (hslots : v.slots = u.slots) (hgate : v.gateOpen = u.gateOpen)
    (hactive : v.active = u.active) (hrun : v.runSpeed ≤ Config.speedMax) (hcrawl : v.crawlSpeed ≤ Config.speedMax) :
    Arbitrated (recomputeGranted v) := by
  obtain ⟨hact, -, -⟩ := h
  have helig : eligible (Machine.recomputeGranted v) = eligible u := eligible_congr hslots hgate
  have hlevel : slotLevel (Machine.recomputeGranted v) = slotLevel u := by funext k; simp [slotLevel, hslots]
  refine ⟨?_, hrun, hcrawl⟩
  rw [recomputeGranted_active, hactive, helig, hlevel, recomputeGranted_slots, recomputeGranted_run]
  cases ha : u.active with
  | none =>
    rw [ha] at hact
    exact ⟨hact.1, by simp [Machine.recomputeGranted, grantedSpeed, hactive, ha]⟩
  | some a =>
    rw [ha] at hact
    exact ⟨hact.1, hact.2.1, fun c hc => by simp [Machine.recomputeGranted, grantedSpeed, hactive, ha, hc]⟩

theorem clampSpeed_le (v : BitVec 16) : clampSpeed v ≤ Config.speedMax := Nat.min_le_right _ _

/-- Set Run Speed (R151, R170). -/
theorem Arbitrated.takeRunSpeed {s : State} (h : Arbitrated s.speed) {run crawl : Nat} (hrun : run ≤ Config.speedMax)
    (hcrawl : crawl ≤ Config.speedMax) : Arbitrated (takeRunSpeed run crawl s).speed := by
  simp only [Machine.takeRunSpeed, State.withSpeed_speed]
  split
  · exact h.recomputeGranted rfl rfl rfl hrun hcrawl
  · next c _ =>
    have hchanged : Arbitrated (Machine.changeSlot .label (some { c with speed := crawl })
        { s.speed with runSpeed := run, crawlSpeed := crawl }) :=
      (changeSlot_runs _ _ _).arbitrated ((arbitrate_run _ _).trans_le hrun) ((arbitrate_crawl _ _).trans_le hcrawl)
    exact hchanged.recomputeGranted rfl rfl rfl hchanged.speeds.1 hchanged.speeds.2

/-- Set Claim Gate (R171). -/
theorem Arbitrated.takeGate {s : State} (h : Arbitrated s.speed) (g : Bool) : Arbitrated (takeGate g s).speed := by
  unfold Machine.takeGate
  split
  · exact h
  · have hruns : RunsArbitration s.speed (arbitrate false { s.speed with gateOpen := g }) :=
      runsArbitration_arbitrate rfl fun a _ _ => by simp [slotLevel]
    exact hruns.arbitrated ((arbitrate_run _ _).trans_le h.speeds.1) ((arbitrate_crawl _ _).trans_le h.speeds.2)

/-! ### The claims and their conditions, block by block (R172) -/

/-- The agreement of the claims with their conditions, but for REG. -/
def AgreeButReg (s : State) : Prop :=
  ((s.speed.slots.get .ref).isSome = true ↔ s.pos.ref.state = .lost)
    ∧ (s.speed.slots.get .label).isSome = s.labels.claimHeld
    ∧ (ReferenceRuns s → s.jobs.head.isSome = true)
    ∧ ∀ st, (s.register.get st).state ≠ .off → (stationJob st s).isSome = true

theorem claimsAgree_iff (s : State) : ClaimsAgree s ↔
    AgreeButReg s ∧ ((s.speed.slots.get .reg).isSome = true ↔ ∃ st, (s.register.get st).state = .lost) := by
  simp only [ClaimsAgree, AgreeButReg]
  constructor
  · rintro ⟨href, hreg, hrest⟩; exact ⟨⟨href, hrest⟩, hreg⟩
  · rintro ⟨⟨href, hrest⟩, hreg⟩; exact ⟨href, hreg, hrest⟩

theorem ClaimsAgree.butReg {s : State} (h : ClaimsAgree s) : AgreeButReg s := ((claimsAgree_iff s).mp h).1

theorem ClaimsAgree.reg {s : State} (h : ClaimsAgree s) :
    (s.speed.slots.get .reg).isSome = true ↔ ∃ st, (s.register.get st).state = .lost := ((claimsAgree_iff s).mp h).2

theorem ClaimsAgree.stationJob {s : State} (h : ClaimsAgree s) {st : Station} (hst : (s.register.get st).state ≠ .off) :
    (stationJob st s).isSome = true := by
  obtain ⟨-, -, -, hjob⟩ := h.butReg
  exact hjob st hst

/-- What the claims and their conditions rest on: a station counts with its state and its job. -/
def claimView (s : State) :=
  (s.speed, s.pos.ref.state, s.jobs, s.labels.claimHeld, fun st => ((s.register.get st).state, (s.register.get st).job))

theorem claimsAgree_of_view {s t : State} (hv : claimView t = claimView s) (h : ClaimsAgree s) : ClaimsAgree t := by
  simp only [claimView, Prod.mk.injEq, funext_iff] at hv
  obtain ⟨hspeed, href, hjobs, hheld, hst⟩ := hv
  simp only [ClaimsAgree, ReferenceRuns, Machine.stationJob, jobOf_congr hjobs, fun st => (hst st).1, fun st => (hst st).2, hspeed, href,
    hjobs, hheld] at h ⊢
  exact h

/-- A change of a station's record that leaves its state and its job. -/
theorem claimView_setStation {st : Station} {r : StationRecord} {s : State} (hstate : r.state = (s.register.get st).state)
    (hjob : r.job = (s.register.get st).job) : claimView (setStation st r s) = claimView s := by
  simp only [claimView, setStation_jobs, setStation_pos, setStation_speed, setStation_labels]
  have hst : (fun x => (((setStation st r s).register.get x).state, ((setStation st r s).register.get x).job))
      = fun x => ((s.register.get x).state, (s.register.get x).job) := by
    funext x
    by_cases hx : x = st
    · subst hx; simp [setStation, hstate, hjob]
    · simp [setStation, PerStation.get_set_other _ _ _ _ hx]
  rw [hst]

/-! #### REF -/

/-- The reference takes a record, and the REF slot is as it was. -/
theorem ClaimsAgree.setRef {s : State} (h : ClaimsAgree s) {r : RefRecord} (hlost : r.state = .lost ↔ s.pos.ref.state = .lost)
    (hruns : r.state = .locked ∨ r.state = .coasting ∨ r.state = .lost → s.jobs.head.isSome = true) : ClaimsAgree (setRef r s) := by
  obtain ⟨href, hreg, hlabel, -, hjob⟩ := h
  exact ⟨href.trans hlost.symm, hreg, hlabel, hruns, hjob⟩

/-- The reference takes a record, and the REF slot is set or released with it (R10). -/
theorem ClaimsAgree.setRefSlot {s : State} (h : ClaimsAgree s) {r : RefRecord} {c : Option ClaimValue}
    (hc : c.isSome = true ↔ r.state = .lost)
    (hruns : r.state = .locked ∨ r.state = .coasting ∨ r.state = .lost → s.jobs.head.isSome = true) :
    ClaimsAgree (setSlot .ref c (Machine.setRef r s)) := by
  obtain ⟨-, hreg, hlabel, -, hjob⟩ := h
  have hslots : (setSlot .ref c (Machine.setRef r s)).speed.slots = s.speed.slots.set .ref c := setSlot_slots _ _ _
  refine ⟨?_, ?_, ?_, hruns, hjob⟩
  · rw [hslots, PerSlot.get_set_same]; exact hc
  · rw [hslots, PerSlot.get_set_other _ _ _ _ (by decide)]; exact hreg
  · rw [hslots, PerSlot.get_set_other _ _ _ _ (by decide)]; exact hlabel

/-! #### LABEL -/

/-- The claim-held flag and the LABEL slot change together (R150). -/
theorem ClaimsAgree.setLabelSlot {s : State} (h : ClaimsAgree s) {c : Option ClaimValue} {held : Bool} (hc : c.isSome = held) :
    ClaimsAgree (setSlot .label c (s.withLabels { s.labels with claimHeld := held })) := by
  obtain ⟨href, hreg, -, hruns, hjob⟩ := h
  have hslots : (setSlot .label c (s.withLabels { s.labels with claimHeld := held })).speed.slots = s.speed.slots.set .label c :=
    setSlot_slots _ _ _
  refine ⟨?_, ?_, ?_, hruns, hjob⟩
  · rw [hslots, PerSlot.get_set_other _ _ _ _ (by decide)]; exact href
  · rw [hslots, PerSlot.get_set_other _ _ _ _ (by decide)]; exact hreg
  · rw [hslots, PerSlot.get_set_same]; exact hc

/-! #### A master's slot -/

theorem masterSlot_ne (m : Master) : Slot.ref ≠ masterSlot m ∧ Slot.reg ≠ masterSlot m ∧ Slot.label ≠ masterSlot m := by
  cases m <;> decide

theorem ClaimsAgree.setMasterSlot {s : State} (h : ClaimsAgree s) (m : Master) (c : Option ClaimValue) :
    ClaimsAgree (setSlot (masterSlot m) c s) := by
  obtain ⟨href, hreg, hlabel, hruns, hjob⟩ := h
  obtain ⟨h1, h2, h3⟩ := masterSlot_ne m
  have hslots : (setSlot (masterSlot m) c s).speed.slots = s.speed.slots.set (masterSlot m) c := setSlot_slots _ _ _
  refine ⟨?_, ?_, ?_, hruns, hjob⟩
  · rw [hslots, PerSlot.get_set_other _ _ _ _ h1]; exact href
  · rw [hslots, PerSlot.get_set_other _ _ _ _ h2]; exact hreg
  · rw [hslots, PerSlot.get_set_other _ _ _ _ h3]; exact hlabel

/-! #### REG -/

theorem mem_lostSpeeds {s : State} {v : Nat} :
    v ∈ lostSpeeds s ↔ ∃ st, (s.register.get st).state = .lost ∧ (stationJob st s).map (·.recoverySpeed) = some v := by
  simp only [lostSpeeds, List.mem_filterMap, mem_allStations, true_and]
  refine exists_congr fun st => ?_
  split <;> simp [*]

/-- With every station that is not OFF in a job, the LOST stations have a recovery speed exactly when there is one (R75). -/
theorem lostSpeeds_eq_nil_iff {s : State} (hjob : ∀ st, (s.register.get st).state ≠ .off → (stationJob st s).isSome = true) :
    lostSpeeds s = [] ↔ ¬∃ st, (s.register.get st).state = .lost := by
  constructor
  · rintro hnil ⟨st, hst⟩
    obtain ⟨j, hj⟩ := Option.isSome_iff_exists.mp (hjob st (by rw [hst]; decide))
    have hmem : j.recoverySpeed ∈ lostSpeeds s := mem_lostSpeeds.mpr ⟨st, hst, by rw [hj]; rfl⟩
    rw [hnil] at hmem
    exact absurd hmem (by simp)
  · intro hno
    refine List.eq_nil_iff_forall_not_mem.mpr fun v hv => ?_
    obtain ⟨st, hst, -⟩ := mem_lostSpeeds.mp hv
    exact hno ⟨st, hst⟩

/-- Setting REG again brings it into agreement, whatever it was before (R75). -/
theorem AgreeButReg.updateRegClaim {s : State} (h : AgreeButReg s) : ClaimsAgree (updateRegClaim s) := by
  obtain ⟨href, hlabel, hruns, hjob⟩ := h
  have hset (c : Option ClaimValue) (hc : c.isSome = true ↔ ∃ st, (s.register.get st).state = .lost) :
      ClaimsAgree (setSlot .reg c s) := by
    have hslots : (setSlot .reg c s).speed.slots = s.speed.slots.set .reg c := setSlot_slots _ _ _
    refine ⟨?_, ?_, ?_, hruns, hjob⟩
    · rw [hslots, PerSlot.get_set_other _ _ _ _ (by decide)]; exact href
    · rw [hslots, PerSlot.get_set_same]; exact hc
    · rw [hslots, PerSlot.get_set_other _ _ _ _ (by decide)]; exact hlabel
  unfold Machine.updateRegClaim
  split
  · next hnil => exact hset none (by simpa using (lostSpeeds_eq_nil_iff hjob).mp hnil)
  · next hcons =>
    refine hset (some _) ⟨fun _ => ?_, fun _ => rfl⟩
    by_contra hno
    rw [(lostSpeeds_eq_nil_iff hjob).mpr hno] at hcons
    exact absurd hcons (by simp)

/-- A station takes a record whose job, unless it is OFF, names a job record. -/
theorem AgreeButReg.setStation {s : State} (h : AgreeButReg s) {st : Station} {r : StationRecord}
    (hr : r.state ≠ .off → (r.job.bind (jobOf · s)).isSome = true) : AgreeButReg (setStation st r s) := by
  obtain ⟨href, hlabel, hruns, hjob⟩ := h
  refine ⟨href, hlabel, hruns, fun x hx => ?_⟩
  by_cases hxs : x = st
  · subst hxs
    simp only [Machine.setStation, Machine.stationJob, State.withRegister_register, PerStation.get_set_same] at hx ⊢
    exact hr hx
  · simp only [Machine.setStation, Machine.stationJob, State.withRegister_register, PerStation.get_set_other _ _ _ _ hxs] at hx ⊢
    exact hjob x hx

/-- A station that stays LOST, or stays out of LOST, leaves REG in agreement. -/
theorem ClaimsAgree.setStation {s : State} (h : ClaimsAgree s) {st : Station} {r : StationRecord}
    (hlost : r.state = .lost ↔ (s.register.get st).state = .lost) (hr : r.state ≠ .off → (r.job.bind (jobOf · s)).isSome = true) :
    ClaimsAgree (setStation st r s) := by
  refine (claimsAgree_iff _).mpr ⟨h.butReg.setStation hr, h.reg.trans (exists_congr fun x => ?_)⟩
  by_cases hx : x = st
  · subst hx; simp [Machine.setStation, hlost]
  · simp [Machine.setStation, PerStation.get_set_other _ _ _ _ hx]

/-! #### The job slots -/

/-- A tag names a job record exactly when the head or the tail job has that number (R45). -/
theorem jobOf_isSome_iff {tag : Nat} {s : State} : (jobOf tag s).isSome = true ↔
    (∃ h, s.jobs.head = some h ∧ h.record.number = tag) ∨ ∃ t, s.jobs.tail = some t ∧ t.record.number = tag := by
  have htail : (s.jobs.tail.bind fun t => if t.record.number == tag then some t.record else none).isSome = true ↔
      ∃ t, s.jobs.tail = some t ∧ t.record.number = tag := by
    simp only [Option.isSome_bind, Option.any_eq_true]
    refine exists_congr fun t => and_congr_right fun _ => ?_
    by_cases hn : t.record.number = tag <;> simp [hn]
  unfold jobOf
  cases s.jobs.head with
  | none => simpa using htail
  | some h =>
    by_cases hn : h.record.number = tag
    · simp [hn]
    · simpa [hn] using htail

/-- The job slots change alone: the head slot stays filled while the reference runs, and the stations' jobs stay in the slots. -/
theorem ClaimsAgree.of_jobs {s t : State} (h : ClaimsAgree s) (hv : claimView t = claimView (s.withJobs t.jobs))
    (hhead : ReferenceRuns s → s.jobs.head.isSome = true → t.jobs.head.isSome = true)
    (hjob : ∀ st tag, (s.register.get st).job = some tag → (jobOf tag s).isSome = true → (jobOf tag t).isSome = true) :
    ClaimsAgree t := by
  refine claimsAgree_of_view hv ?_
  obtain ⟨href, hreg, hlabel, hruns, hin⟩ := h
  refine ⟨href, hreg, hlabel, fun hr => hhead hr (hruns hr), fun st hst => ?_⟩
  have hsome := hin st hst
  simp only [Machine.stationJob, State.withJobs_register] at hsome ⊢
  cases htag : (s.register.get st).job with
  | none => rw [htag] at hsome; exact absurd hsome (by simp)
  | some tag =>
    rw [htag] at hsome
    exact (congrArg Option.isSome (jobOf_congr (s := t) (t := s.withJobs t.jobs) rfl tag)).trans (hjob st tag htag hsome)

end Sys2Proof.Machine

/-! O56 at the stations, the nip and the knife: what one operation may do to the laws of the speed authority is `KeepsClaims`, which is
reflexive and transitive. -/

namespace Sys2Proof.Machine

open Sys2Proof

/-! ### The relation -/

/-- From `s` to `t` arbitration's law and the agreement of the claims with their conditions are kept. The job slots in order are what
the switch of jobs at a creation rests on: with a job armed, no tail job is in the path (R45). -/
structure KeepsClaims (s t : State) : Prop where
  jobs : JobsSound s → JobsSound t
  speed : Arbitrated s.speed → Arbitrated t.speed
  agree : JobsSound s → ClaimsAgree s → ClaimsAgree t

theorem KeepsClaims.refl (s : State) : KeepsClaims s s := ⟨id, id, fun _ => id⟩

theorem KeepsClaims.trans {s t u : State} (h : KeepsClaims s t) (k : KeepsClaims t u) : KeepsClaims s u :=
  ⟨k.jobs ∘ h.jobs, k.speed ∘ h.speed, fun hj => k.agree (h.jobs hj) ∘ h.agree hj⟩

theorem KeepsClaims.foldl {α : Type} {f : State → α → State} (h : ∀ s a, KeepsClaims s (f s a)) (xs : List α) (s : State) :
    KeepsClaims s (xs.foldl f s) := by
  induction xs generalizing s with
  | nil => exact .refl s
  | cons a as ih => exact (h s a).trans (ih _)

/-- An operation that leaves all that the claims and their conditions rest on. -/
theorem KeepsClaims.of_view {s t : State} (h : claimView t = claimView s) : KeepsClaims s t := by
  have hview := claimsAgree_of_view h
  simp only [claimView, Prod.mk.injEq] at h
  exact ⟨jobsSound_of_jobs h.2.2.1, by rw [h.1]; exact id, fun _ => hview⟩

/-- An operation that writes a slot and leaves the job slots. -/
theorem KeepsClaims.of_changeSlot {s t : State} {k : Slot} {c : Option ClaimValue} (hs : t.speed = Machine.changeSlot k c s.speed)
    (hj : t.jobs = s.jobs) (h : ClaimsAgree s → ClaimsAgree t) : KeepsClaims s t :=
  ⟨jobsSound_of_jobs hj, fun ha => hs ▸ ha.changeSlot k c, fun _ => h⟩

/-! ### The stations -/

theorem KeepsClaims.advanceDraws (n : Nat) (s : State) : KeepsClaims s (advanceDraws n s) := .of_view rfl

theorem KeepsClaims.raiseNotice (k : NoticeKind) (s : State) : KeepsClaims s (raiseNotice k s) := .of_view rfl

/-- Setting REG again after a change of one station that leaves the rest in agreement (R74, R75). -/
theorem KeepsClaims.updateRegClaim {s t : State} (hs : t.speed = s.speed) (hj : t.jobs = s.jobs)
    (h : ClaimsAgree s → AgreeButReg t) : KeepsClaims s (updateRegClaim t) := by
  refine ⟨jobsSound_of_jobs (by simp [hj]), fun ha => ?_, fun _ hc => (h hc).updateRegClaim⟩
  unfold Machine.updateRegClaim
  split <;> exact (hs ▸ ha).changeSlot _ _

theorem KeepsClaims.setStation {st : Station} {r : StationRecord} {s : State}
    (hlost : r.state = .lost ↔ (s.register.get st).state = .lost)
    (hr : ClaimsAgree s → r.state ≠ .off → (r.job.bind (jobOf · s)).isSome = true) : KeepsClaims s (setStation st r s) :=
  ⟨jobsSound_of_jobs rfl, id, fun _ h => h.setStation hlost (hr h)⟩

/-- A change of a station's record that leaves its state and its job. -/
theorem KeepsClaims.setStation_same {st : Station} {r : StationRecord} {s : State} (hstate : r.state = (s.register.get st).state)
    (hjob : r.job = (s.register.get st).job) : KeepsClaims s (Machine.setStation st r s) := .of_view (claimView_setStation hstate hjob)

/-- A station whose job names a job record enters LOST (R74). -/
theorem KeepsClaims.enterLost {st : Station} {s : State} (h : ClaimsAgree s → (stationJob st s).isSome = true) :
    KeepsClaims s (enterLost st s) :=
  .updateRegClaim rfl rfl fun hc =>
    hc.butReg.setStation (st := st) (r := { s.register.get st with state := .lost }) fun _ => h hc

theorem KeepsClaims.stationOff (st : Station) (s : State) : KeepsClaims s (stationOff st s) := by
  have hoff : StationRecord.off.state ≠ .off → (StationRecord.off.job.bind (jobOf · s)).isSome = true := fun h => absurd rfl h
  simp only [Machine.stationOff]
  split
  · exact .updateRegClaim rfl rfl fun hc => hc.butReg.setStation hoff
  · next hne => exact .setStation ⟨fun h => StationState.noConfusion h, fun h => absurd h hne⟩ fun _ => hoff

theorem KeepsClaims.advanceCursor (st : Station) (s : State) : KeepsClaims s (advanceCursor st s) := .setStation_same rfl rfl

theorem KeepsClaims.updateRepeat (n : Nat) (f : Repeat → Repeat) (s : State) : KeepsClaims s (updateRepeat n f s) := .of_view rfl

theorem KeepsClaims.writeResult (st : Station) (n : Nat) (res : StationResult) (s : State) : KeepsClaims s (writeResult st n res s) :=
  .updateRepeat _ _ s

theorem KeepsClaims.skipRecord (st : Station) (n : Nat) (s : State) : KeepsClaims s (skipRecord st n s) := by
  refine (KeepsClaims.writeResult st n .skipped s).trans (KeepsClaims.trans ?_ (.advanceCursor st _))
  exact .setStation_same rfl rfl

theorem KeepsClaims.placeWindow (st : Station) (rec : Repeat) (s : State) : KeepsClaims s (placeWindow st rec s) := by
  unfold Machine.placeWindow
  repeat' split
  · exact .refl s
  · exact .refl s
  · exact .setStation_same rfl rfl

theorem KeepsClaims.deferMiss (st : Station) (s : State) : KeepsClaims s (deferMiss st s) := .setStation_same rfl rfl

/-- A station that carries over into a job keeps its state, and its new job is a record of the slots (R61). -/
theorem KeepsClaims.carryOver {st : Station} {rec : Repeat} {r : StationRecord} {j : JobRecord} {s : State}
    (hj : jobOf rec.job s = some j) (hstate : r.state = (s.register.get st).state) (hjob : r.job = some rec.job) :
    KeepsClaims s (Machine.setStation st r s) :=
  .setStation (by rw [hstate]) fun _ _ => by rw [hjob, Option.bind_some, hj]; rfl

/-- A station that carries over into a job and enters LOST there (R61, R74). -/
theorem KeepsClaims.carryOver_enterLost {st : Station} {rec : Repeat} {r : StationRecord} {j : JobRecord} {s : State}
    (hj : jobOf rec.job s = some j) (hstate : r.state = (s.register.get st).state) (hjob : r.job = some rec.job) :
    KeepsClaims s (Machine.enterLost st (Machine.setStation st r s)) := by
  refine (KeepsClaims.carryOver hj hstate hjob).trans (.enterLost fun _ => ?_)
  simp only [Machine.stationJob, Machine.setStation, State.withRegister_register, PerStation.get_set_same, hjob, Option.bind_some]
  exact Option.isSome_iff_exists.mpr ⟨j, hj⟩

theorem KeepsClaims.switchStation (st : Station) (rec : Repeat) (s : State) : KeepsClaims s (switchStation st rec s) := by
  unfold Machine.switchStation
  split
  · exact .stationOff st s
  · next j e hje =>
    obtain ⟨i, hj, hi⟩ := Option.bind_eq_some_iff.mp hje
    simp only
    split
    · split
      · exact .carryOver_enterLost hj rfl rfl
      · exact .carryOver hj rfl rfl
    · split
      · exact .carryOver_enterLost hj rfl rfl
      · exact .carryOver hj rfl rfl
    · refine KeepsClaims.trans ?_ (.updateRegClaim rfl rfl ClaimsAgree.butReg)
      exact .carryOver hj rfl rfl
    all_goals exact .carryOver hj rfl rfl

theorem stateAfterMiss_eq_lost_iff (state : StationState) : stateAfterMiss state = .lost ↔ state = .lost := by
  cases state <;> simp [stateAfterMiss]

theorem stateAfterMiss_eq_off_iff (state : StationState) : stateAfterMiss state = .off ↔ state = .off := by
  cases state <;> simp [stateAfterMiss]

theorem missEntersLost_ne_off {state : StationState} {run limit : Nat} (h : missEntersLost state run limit = true) : state ≠ .off := by
  rintro rfl
  exact Bool.noConfusion (h : false = true)

theorem KeepsClaims.missRecord (st : Station) (rec : Repeat) (s : State) : KeepsClaims s (missRecord st rec s) := by
  simp only [Machine.missRecord]
  refine KeepsClaims.trans ?_ (.advanceCursor _ _)
  have hmissed (r : StationRecord) (hstate : r.state = stateAfterMiss (s.register.get st).state)
      (hjob : r.job = (s.register.get st).job) :
      KeepsClaims s (Machine.setStation st r (Machine.writeResult st rec.serial .missed s)) :=
    (KeepsClaims.writeResult st rec.serial .missed s).trans <|
      .setStation (by rw [hstate, stateAfterMiss_eq_lost_iff]; rfl) fun hc hr => by
        rw [hjob]
        exact hc.stationJob (st := st) fun hoff => hr (by rw [hstate, stateAfterMiss_eq_off_iff]; exact hoff)
  split
  · next hlost =>
    refine (hmissed _ (by rfl) (by rfl)).trans (.enterLost fun hc => hc.stationJob ?_)
    simp only [Machine.setStation, State.withRegister_register, PerStation.get_set_same]
    exact fun hoff => missEntersLost_ne_off hlost ((stateAfterMiss_eq_off_iff _).mp hoff)
  · exact hmissed _ (by rfl) (by rfl)

theorem KeepsClaims.settleStation (st : Station) (n : Nat) (s : State) : KeepsClaims s (settleStation st n s) := by
  induction n generalizing s with
  | zero => exact .refl s
  | succ n ih =>
    unfold Machine.settleStation
    repeat' split
    · exact .refl s
    · exact (KeepsClaims.switchStation _ _ s).trans (ih _)
    · exact (KeepsClaims.advanceCursor _ s).trans (ih _)
    · exact (KeepsClaims.skipRecord _ _ s).trans (ih _)
    · exact .refl s
    · exact (KeepsClaims.placeWindow _ _ s).trans (.deferMiss _ _)
    · exact (KeepsClaims.placeWindow _ _ s).trans ((KeepsClaims.missRecord _ _ _).trans (ih _))
    · exact .placeWindow _ _ s

theorem KeepsClaims.restStation (st : Station) (s : State) : KeepsClaims s (restStation st s) := .settleStation _ _ s

theorem KeepsClaims.recheckStations (s : State) : KeepsClaims s (recheckStations s) := .foldl (fun s st => .restStation st s) _ s

theorem KeepsClaims.stationMiss (st : Station) (rec : Repeat) (s : State) : KeepsClaims s (stationMiss st rec s) :=
  (KeepsClaims.missRecord st rec s).trans (.restStation st _)

theorem KeepsClaims.stationWindowEnd (st : Station) (s : State) : KeepsClaims s (stationWindowEnd st s) := by
  unfold Machine.stationWindowEnd
  split
  · exact .setStation_same rfl rfl
  · split
    · exact .deferMiss st s
    · exact .stationMiss _ _ s

theorem KeepsClaims.station7Status (n : Nat) (s : State) : KeepsClaims s (station7Status n s) := by
  have hset : KeepsClaims s (Machine.setStation .s7 { s.register.get .s7 with deferredMiss := false } s) := .setStation_same rfl rfl
  simp only [Machine.station7Status]
  split
  · exact .refl s
  · split
    · exact .refl s
    · split
      · split
        · exact hset.trans (.stationMiss _ _ _)
        · exact hset
      · exact hset.trans (.restStation _ _)

theorem trimAtMatch_state_job (st : Station) (err : Int) (s : State) (r : StationRecord) :
    (trimAtMatch st err s r).state = r.state ∧ (trimAtMatch st err s r).job = r.job := by
  unfold trimAtMatch trimUpdate
  repeat' split
  all_goals exact ⟨rfl, rfl⟩

/-- A match on a station that is not OFF; on leaving LOST, REG is set again (R68, R75). -/
theorem KeepsClaims.stationMatch {st : Station} {rec : Repeat} {w : Window} {s : State} (h : (s.register.get st).state ≠ .off) :
    KeepsClaims s (stationMatch st rec w s) := by
  simp only [Machine.stationMatch]
  refine KeepsClaims.trans ?_ (.restStation st _)
  refine KeepsClaims.trans ?_ (.advanceCursor st _)
  have htrim (r : StationRecord) (u : State) (hu : u.register.get st = r) (err : Int) :
      KeepsClaims u (Machine.setStation st (trimAtMatch st err u r) u) := by
    obtain ⟨hstate, hjob⟩ := trimAtMatch_state_job st err u r
    exact .setStation_same (by rw [hstate, hu]) (by rw [hjob, hu])
  refine KeepsClaims.trans ?_ (htrim _ _ (by split <;> simp [Machine.setStation]) _)
  have hwritten := KeepsClaims.writeResult st rec.serial (.matched ((s.pos.linePos : Int) - w.centre)) s
  split
  · exact hwritten.trans (.updateRegClaim rfl rfl fun hc => hc.butReg.setStation fun _ => hc.stationJob h)
  · next hne =>
    exact hwritten.trans (.setStation ⟨fun hl => StationState.noConfusion hl, fun hl => absurd hl hne⟩ fun hc _ => hc.stationJob h)

theorem KeepsClaims.stationStray (st : Station) (s : State) : KeepsClaims s (stationStray st s) := .setStation_same rfl rfl

theorem KeepsClaims.takeStationMark (st : Station) (s : State) : KeepsClaims s (takeStationMark st s) := by
  simp only [Machine.takeStationMark]
  split
  · exact .refl s
  · next hoff =>
    split
    · split
      · exact .stationStray st s
      · split
        · exact .stationMatch hoff
        · exact .stationStray st s
    · exact .stationStray st s

/-- A station starts in a job of the slots that lists it (R60). -/
theorem KeepsClaims.startStation {st : Station} {rec : Repeat} {s : State} (hoff : (s.register.get st).state = .off)
    (h : (jobOf rec.job s).isSome = true) : KeepsClaims s (startStation st rec s) :=
  .setStation (by rw [hoff]; exact ⟨fun h => StationState.noConfusion h, fun h => StationState.noConfusion h⟩) fun _ _ => h

theorem KeepsClaims.stationAtCreation (rec : Repeat) (s : State) (st : Station) : KeepsClaims s (stationAtCreation rec s st) := by
  unfold Machine.stationAtCreation
  split
  · next hoff =>
    split
    · next hlisted =>
      refine (KeepsClaims.startStation hoff ?_).trans (.restStation _ _)
      obtain ⟨-, hentry⟩ := Bool.and_eq_true_iff.mp hlisted
      exact Option.isSome_of_isSome_bind hentry
    · exact .refl s
  · split
    · exact .restStation _ s
    · exact .refl s

theorem KeepsClaims.stationsAtCreation (rec : Repeat) (s : State) : KeepsClaims s (stationsAtCreation rec s) :=
  .foldl (KeepsClaims.stationAtCreation rec) _ s

/-! ### The nip and the splice lifts -/

theorem KeepsClaims.passNip (rec : Repeat) (s : State) : KeepsClaims s (passNip rec s) := by
  simp only [Machine.passNip]
  exact (KeepsClaims.of_view (by simp [claimView])).trans (.station7Status _ _)

theorem KeepsClaims.settleNip (n : Nat) (s : State) : KeepsClaims s (settleNip n s) := by
  induction n generalizing s with
  | zero => exact .of_view rfl
  | succ n ih =>
    unfold Machine.settleNip
    split
    · exact .of_view rfl
    · simp only
      split
      · exact (KeepsClaims.of_view (by simp [claimView])).trans ((KeepsClaims.passNip _ _).trans (ih _))
      · exact .of_view (by simp [claimView])

theorem KeepsClaims.restNip (s : State) : KeepsClaims s (restNip s) := .settleNip _ s

theorem KeepsClaims.nipCrossing (s : State) : KeepsClaims s (nipCrossing s) := by
  unfold Machine.nipCrossing
  split
  · exact .of_view rfl
  · exact (KeepsClaims.passNip _ s).trans (.restNip _)

/-! ### The labels (R150) -/

theorem KeepsClaims.claimAfterClose (s : State) : KeepsClaims s (claimAfterClose s) := by
  unfold Machine.claimAfterClose
  split
  · exact .of_changeSlot rfl rfl fun h => h.setLabelSlot rfl
  · exact .refl s

theorem KeepsClaims.claimAfterRemoval (s : State) : KeepsClaims s (claimAfterRemoval s) := by
  unfold Machine.claimAfterRemoval
  split
  · exact .of_changeSlot rfl rfl fun h => h.setLabelSlot rfl
  · exact .refl s

theorem KeepsClaims.queueLabel (r : LabelRecord) (s : State) : KeepsClaims s (queueLabel r s).2 :=
  .of_view (by simp [claimView, queueLabel_claimHeld])

theorem KeepsClaims.removeLabel (n : Nat) (s : State) : KeepsClaims s (removeLabel n s) :=
  (KeepsClaims.of_view rfl : KeepsClaims s (s.withLabels { s.labels with queue := s.labels.queue.filter fun r => r.rollId != n })).trans
    (.claimAfterRemoval _)

/-! ### The knife (R97) -/

theorem KeepsClaims.withRolls (v : RollUnit) (s : State) : KeepsClaims s (s.withRolls v) := .of_view rfl

theorem KeepsClaims.setLane (l : Lane) (r : LaneRecord) (s : State) : KeepsClaims s (setLane l r s) := .of_view rfl

theorem KeepsClaims.closeRoll (l : Lane) (k : RollKind) (r : CloseReason) (s : State) : KeepsClaims s (closeRoll l k r s) := by
  unfold Machine.closeRoll
  have hgraded (e : HistoryEntry) : KeepsClaims s (gradeRoll e s).2 := .of_view (by simp [claimView])
  exact (hgraded _).trans <| (KeepsClaims.queueLabel _ _).trans <| (KeepsClaims.claimAfterClose _).trans <|
    (KeepsClaims.withRolls _ _).trans <| (KeepsClaims.setLane _ _ _).trans (.raiseNotice _ _)

theorem KeepsClaims.foldLane (k : Repeat) (s : State) (l : Lane) : KeepsClaims s (foldLane k s l) := .of_view (by simp [claimView])

theorem KeepsClaims.cutLane (l : Lane) (r : CloseReason) (s : State) : KeepsClaims s (cutLane l r s) := by
  simp only [Machine.cutLane]
  split
  · exact .refl s
  · exact (KeepsClaims.of_view rfl : KeepsClaims s (strobe l s)).trans ((KeepsClaims.closeRoll _ _ _ _).trans (.setLane _ _ _))

theorem KeepsClaims.decideCut (f : Bool) (k : Repeat) (n : Option Repeat) (s : State) (l : Lane) :
    KeepsClaims s (decideCut f k n s l) := by
  unfold Machine.decideCut
  repeat' split
  · exact .refl s
  · exact .refl s
  · exact .cutLane _ _ _

theorem KeepsClaims.foldAndCut (f : Bool) (k : Repeat) (n : Option Repeat) (s : State) : KeepsClaims s (foldAndCut f k n s) :=
  (KeepsClaims.foldl (KeepsClaims.foldLane k) _ _).trans (KeepsClaims.foldl (KeepsClaims.decideCut f k n) _ _)

theorem KeepsClaims.stationsAtJobClear (tag : Nat) (s : State) : KeepsClaims s (stationsAtJobClear tag s) := by
  refine .foldl (fun u st => ?_) _ s
  split
  · exact .stationOff st u
  · exact .refl u

/-- What each element of a fold brings about, and no other undoes, holds at its end of every element. -/
theorem foldl_establishes {α β : Type} {f : β → α → β} {P : α → β → Prop} (hdone : ∀ b a, P a (f b a))
    (hkept : ∀ b a x, P x b → P x (f b a)) (xs : List α) (b : β) {a : α} (ha : a ∈ xs) : P a (xs.foldl f b) := by
  induction xs generalizing b with
  | nil => exact absurd ha (by simp)
  | cons y ys ih =>
    rw [List.foldl_cons]
    rcases List.mem_cons.mp ha with rfl | hmem
    · clear ih ha
      have hfirst := hdone b a
      generalize f b a = c at hfirst
      induction ys generalizing c with
      | nil => exact hfirst
      | cons z zs ih => exact ih _ (hkept c z a hfirst)
    · exact ih _ hmem

/-- At JOB_CLEAR no station stays in the job that leaves (R62). -/
theorem stationsAtJobClear_job (tag : Nat) (s : State) (st : Station) :
    ((stationsAtJobClear tag s).register.get st).job ≠ some tag := by
  refine foldl_establishes (P := fun st u => (u.register.get st).job ≠ some tag) (fun u x => ?_) (fun u a x hx => ?_) _ s (mem_allStations st)
  · split
    · simp [StationRecord.off]
    · assumption
  · split
    · rw [stationOff_register]
      by_cases hxa : x = a
      · subst hxa; simp [StationRecord.off]
      · rwa [PerStation.get_set_other _ _ _ _ hxa]
    · exact hx

/-- JOB_CLEAR: the tail slot empties once no station is in the tail job (R52, R62). -/
theorem KeepsClaims.jobClear {tag : Nat} {s : State} (hc : clearsTail tag s = true) : KeepsClaims s (jobClear tag s) := by
  have hjobs : (Machine.jobClear tag s).jobs = { s.jobs with tail := none } := (jobClear_fields tag s).1
  have hsoundly := (Keeps.jobClear hc).jobs
  obtain ⟨htail, -⟩ := Bool.and_eq_true_iff.mp hc
  have hview : claimView (Machine.jobClear tag s)
      = claimView ((Machine.stationsAtJobClear tag s).withJobs (Machine.jobClear tag s).jobs) := by
    simp only [Machine.jobClear]
    split <;> rfl
  refine ⟨hsoundly, fun ha => ?_, fun hj hclaims => ?_⟩
  · rw [show (Machine.jobClear tag s).speed = (Machine.stationsAtJobClear tag s).speed from congrArg Prod.fst hview]
    exact (KeepsClaims.stationsAtJobClear tag s).speed ha
  · refine ((KeepsClaims.stationsAtJobClear tag s).agree hj hclaims).of_jobs hview (fun _ hh => ?_) fun st n hn hsome => ?_
    · rw [hjobs]; simpa using hh
    · have hne : n ≠ tag := by rintro rfl; exact stationsAtJobClear_job n s st hn
      rcases jobOf_isSome_iff.mp hsome with ⟨h, hh, hnum⟩ | ⟨t, ht, hnum⟩
      · exact jobOf_isSome_iff.mpr (.inl ⟨h, by rw [hjobs]; simpa using hh, hnum⟩)
      · rw [stationsAtJobClear_jobs] at ht
        rw [ht, Option.map_some, beq_iff_eq, Option.some.injEq] at htail
        exact absurd (hnum.symm.trans htail) hne

theorem KeepsClaims.retire (k : Repeat) (s : State) : KeepsClaims s (retire k s) := by
  have hdrop : KeepsClaims s (s.withMap { s.map with ring := s.map.ring.drop 1, retired := k.serial, knifeCursor := k.serial + 1 }) :=
    .of_view rfl
  simp only [Machine.retire]
  split
  · next hc => exact hdrop.trans (.jobClear hc)
  · exact hdrop

theorem KeepsClaims.switchLanes (f : Bool) (n : Option Repeat) (s : State) : KeepsClaims s (switchLanes f n s) :=
  .of_view (by simp [claimView])

theorem KeepsClaims.actAtKnife (kind : KnifeKind) (k : Repeat) (s : State) : KeepsClaims s (actAtKnife kind k s) := by
  unfold Machine.actAtKnife
  exact (KeepsClaims.withRolls _ s).trans <| (KeepsClaims.foldAndCut _ _ _ _).trans <| (KeepsClaims.retire _ _).trans (.switchLanes _ _ _)

theorem KeepsClaims.settleKnife (n : Nat) (s : State) : KeepsClaims s (settleKnife n s) := by
  induction n generalizing s with
  | zero => exact .of_view rfl
  | succ n ih =>
    unfold Machine.settleKnife
    repeat' split
    · exact (KeepsClaims.actAtKnife _ _ s).trans (ih _)
    · exact .of_view rfl
    · exact .of_view rfl

theorem KeepsClaims.restKnife (s : State) : KeepsClaims s (restKnife s) := .settleKnife _ s

theorem KeepsClaims.knifeCrossing (s : State) : KeepsClaims s (knifeCrossing s) := by
  unfold Machine.knifeCrossing
  split
  · exact (KeepsClaims.actAtKnife _ _ s).trans (.restKnife _)
  · exact .of_view rfl

theorem KeepsClaims.knifeAtCreation (rec : Repeat) (s : State) : KeepsClaims s (knifeAtCreation rec s) := by
  have htake : KeepsClaims s (if rec.changePoint then takeUpJob rec s else s) := by
    split
    · exact .of_view (by simp [claimView])
    · exact .refl s
  unfold Machine.knifeAtCreation
  split
  · exact htake.trans (.restKnife _)
  · split
    · exact .restKnife s
    · exact .refl s

end Sys2Proof.Machine

/-! O56 at a creation, at the crossings, at the requests and at a step. -/

namespace Sys2Proof.Machine

open Sys2Proof

/-! ### Splices (R13 to R16) -/

theorem KeepsClaims.flagSplice (n : Repeat) (s : State) : KeepsClaims s (flagSplice n s) := by
  unfold Machine.flagSplice
  split
  · exact .refl s
  · exact KeepsClaims.trans (.of_view (by simp [claimView])) (.recheckStations _)

theorem KeepsClaims.withSplices (l : List Nat) (s : State) : KeepsClaims s (s.withPos { s.pos with splices := l }) := .of_view rfl

theorem KeepsClaims.resolveSplices (s : State) : KeepsClaims s (resolveSplices s) := by
  unfold Machine.resolveSplices
  repeat' split
  · exact .refl s
  · exact (KeepsClaims.withSplices _ s).trans (.flagSplice _ _)
  · exact .refl s

theorem KeepsClaims.takeSplice (s : State) : KeepsClaims s (takeSplice s) := by
  simp only [Machine.takeSplice]
  repeat' split
  · exact .refl s
  · exact .refl s
  · exact .flagSplice _ s
  · exact .refl s
  · exact .refl s
  · exact .withSplices _ s
  · exact .raiseNotice _ s

/-! ### Creation (R11) -/

theorem KeepsClaims.completeNewest (f : Repeat → Nat) (s : State) : KeepsClaims s (completeNewest f s) := by
  unfold Machine.completeNewest
  split
  · exact .refl s
  · exact (KeepsClaims.updateRepeat _ _ s).trans (.resolveSplices _)

/-- With a job armed no tail job is in the path, so every job of the slots stays in them when the jobs switch (R45, R47). -/
theorem KeepsClaims.switchJobs {j : JobRecord} {s : State} (harm : armedJob s = some j) (m : Nat) : KeepsClaims s (switchJobs j m s) := by
  refine ⟨(Keeps.switchJobs harm m).jobs, id, fun hs h => h.of_jobs rfl (fun _ _ => rfl) fun st tag _ hsome => ?_⟩
  rcases jobOf_isSome_iff.mp hsome with ⟨x, hx, hnum⟩ | ⟨t, ht, -⟩
  · refine jobOf_isSome_iff.mpr (.inr ⟨{ record := x.record, firstSerial := x.firstSerial, lastSerial := m - 1, finalBoundary := none }, ?_, hnum⟩)
    rw [switchJobs_jobs]
    simp only [hx]
  · rw [hs.tail_none harm] at ht
    exact absurd ht (by simp)

theorem KeepsClaims.namedAt (start : Nat) (s : State) : KeepsClaims s (namedAt start s) := by
  have hcomplete : KeepsClaims s (completedAt start s) := .completeNewest _ s
  have hserial (u : State) : KeepsClaims u (takeSerial u) := .of_view (by simp [claimView, (StaysPlaced.takeSerial u).ref])
  rw [namedAt_eq]
  refine hcomplete.trans ((hserial _).trans ?_)
  cases harm : armedJob (takeSerial (completedAt start s)) with
  | none => exact .refl _
  | some a => exact .switchJobs harm _

theorem KeepsClaims.cursorsAtCreation (rec : Repeat) (s : State) : KeepsClaims s (cursorsAtCreation rec s) := by
  simp only [Machine.cursorsAtCreation]
  refine (KeepsClaims.stationsAtCreation rec s).trans (KeepsClaims.trans ?_ (.knifeAtCreation rec _))
  split
  · exact .restNip _
  · exact .refl _

theorem KeepsClaims.createRepeat (j : JobRecord) (start : Nat) (o : Origin) (res : StationResult) (s : State) :
    KeepsClaims s (createRepeat j start o res s) := by
  have hjoin (rec : Repeat) (u : State) : KeepsClaims u (appendRepeat rec u) := .of_view rfl
  have hdesignate (n : Nat) (u : State) : KeepsClaims u (designate n u) := .of_view (by simp [claimView])
  rw [createRepeat_eq]
  exact (KeepsClaims.namedAt start s).trans <| (hjoin _ _).trans <| (KeepsClaims.cursorsAtCreation _ _).trans (hdesignate _ _)

/-- After a creation there is a head job (R11 step 4). -/
theorem createRepeat_head {j : JobRecord} {s : State} (h : creatingJob s = some j) (start : Nat) (o : Origin) (res : StationResult) :
    (createRepeat j start o res s).jobs.head.isSome = true := by
  obtain ⟨x, hx, -⟩ := namedAt_head h start
  have hcursors (rec : Repeat) (u : State) : (cursorsAtCreation rec u).jobs.head = u.jobs.head := by
    have hacts := (KnifeActs.knifeAtCreation rec
      (if (stationsAtCreation rec u).map.nipCursor = rec.serial then restNip (stationsAtCreation rec u) else stationsAtCreation rec u)).jobs
    have hbefore : (if (stationsAtCreation rec u).map.nipCursor = rec.serial then restNip (stationsAtCreation rec u)
        else stationsAtCreation rec u).jobs = u.jobs := by split <;> simp
    rw [hbefore] at hacts
    simp only [cursorsAtCreation]
    rcases hacts with e | e <;> rw [e]
  rw [createRepeat_eq, designate_jobs, hcursors, joinedAt, appendRepeat_jobs, hx]
  rfl

/-! ### The reference (R4 to R10) -/

/-- The reference takes a record that is LOST as it was before, the REF slot untouched. -/
theorem KeepsClaims.setRef {r : RefRecord} {s : State} (hlost : r.state = .lost ↔ s.pos.ref.state = .lost)
    (hruns : r.state = .locked ∨ r.state = .coasting ∨ r.state = .lost → s.jobs.head.isSome = true) : KeepsClaims s (setRef r s) :=
  ⟨jobsSound_of_jobs rfl, id, fun _ h => h.setRef hlost hruns⟩

/-- The reference takes a record, and the REF slot is filled exactly when that record is LOST (R10). -/
theorem KeepsClaims.setRefSlot {r : RefRecord} {c : Option ClaimValue} {s : State} (hc : c.isSome = true ↔ r.state = .lost)
    (hruns : r.state = .locked ∨ r.state = .coasting ∨ r.state = .lost → s.jobs.head.isSome = true) :
    KeepsClaims s (setSlot .ref c (Machine.setRef r s)) :=
  .of_changeSlot rfl rfl fun h => h.setRefSlot hc hruns

/-- A creation, and then the reference's record without a change of REF. -/
theorem KeepsClaims.createThenSetRef {j : JobRecord} {s : State} (h : creatingJob s = some j) (start : Nat) (o : Origin)
    (res : StationResult) {r : RefRecord} (hlost : r.state = .lost ↔ s.pos.ref.state = .lost) :
    KeepsClaims s (Machine.setRef r (Machine.createRepeat j start o res s)) :=
  (KeepsClaims.createRepeat j start o res s).trans
    (.setRef (by rw [hlost, (StaysPlaced.createRepeat j start o res s).ref]) fun _ => createRepeat_head h _ _ _)

/-- A creation, and then the reference's record with a change of REF (R10). -/
theorem KeepsClaims.createThenSetRefSlot {j : JobRecord} {s : State} (h : creatingJob s = some j) (start : Nat) (o : Origin)
    (res : StationResult) {r : RefRecord} {c : Option ClaimValue} (hc : c.isSome = true ↔ r.state = .lost) :
    KeepsClaims s (setSlot .ref c (Machine.setRef r (Machine.createRepeat j start o res s))) :=
  (KeepsClaims.createRepeat j start o res s).trans (.setRefSlot hc fun _ => createRepeat_head h _ _ _)

theorem KeepsClaims.markedRepeat {j : JobRecord} {s : State} (h : creatingJob s = some j) (err : Int) :
    KeepsClaims s (markedRepeat j err s) := by
  simp only [Machine.markedRepeat]
  split
  · refine KeepsClaims.trans ?_ (.raiseNotice _ _)
    refine .createThenSetRefSlot h _ _ _ ?_
    simp
  · next hlost =>
    refine .createThenSetRef h _ _ _ ?_
    simp [hlost]

theorem KeepsClaims.takeReferenceMark (s : State) : KeepsClaims s (takeReferenceMark s) := by
  have hstray : KeepsClaims s (refStray s) := .of_view rfl
  unfold Machine.takeReferenceMark
  split
  · exact .refl s
  · split
    · exact .refl s
    · next h => exact .markedRepeat (creatingJob_of_armed h) _
  all_goals
    split
    · next hc =>
      split
      · exact .markedRepeat hc _
      · exact hstray
    · exact hstray

/-- A LOST reference stays LOST at a SYNTH repeat (R9). -/
theorem stateAfterSynth_of_lost {state : RefState} (h : state = .lost) (run limit : Nat) : stateAfterSynth state run limit = .lost := by
  rw [stateAfterSynth, if_pos h]

theorem KeepsClaims.refWindowEnd (s : State) : KeepsClaims s (refWindowEnd s) := by
  simp only [Machine.refWindowEnd]
  split
  · next w j _ hc =>
    split
    · next hlost =>
      have hstays := stateAfterSynth_of_lost hlost (saturate 255 (s.pos.ref.synthRun + 1)) j.missLimit
      split
      · refine .createThenSetRefSlot hc _ _ _ ?_
        simp [hstays]
      · refine .createThenSetRef hc _ _ _ ?_
        exact ⟨fun _ => hlost, fun _ => hstays⟩
    · next hnot =>
      split
      · next henters =>
        refine KeepsClaims.trans ?_ (.raiseNotice _ _)
        refine .createThenSetRefSlot hc _ _ _ ?_
        simp [henters]
      · next hstays =>
        refine .createThenSetRef hc _ _ _ ?_
        simp [hstays, hnot]
  · exact .refl s

/-! ### Crossings and events -/

theorem KeepsClaims.takeCrossing (c : Crossing) (s : State) : KeepsClaims s (takeCrossing c s) := by
  cases c with
  | refWindowEnd => exact .refWindowEnd s
  | stationWindowEnd st => exact .stationWindowEnd st s
  | nip => exact .nipCrossing s
  | liftStart | liftEnd => exact .of_view (by simp [claimView, Machine.takeCrossing])
  | knife => exact .knifeCrossing s

theorem KeepsClaims.grantNoticed (s u : State) : KeepsClaims u (grantNoticed s u) := by
  unfold Machine.grantNoticed
  split
  · exact .refl u
  · exact .raiseNotice _ u

theorem KeepsClaims.asEvent {f : State → State} (h : ∀ u, KeepsClaims u (f u)) (s : State) : KeepsClaims s (asEvent f s) := by
  have hclosed (u : State) : KeepsClaims u (withEventClosed u) := .of_view rfl
  rw [asEvent_eq]
  exact (hclosed s).trans <| (h _).trans <| (KeepsClaims.grantNoticed s _).trans (hclosed _)

theorem KeepsClaims.drain (s : State) : KeepsClaims s (drain s) :=
  drainFuel_keeps (P := KeepsClaims s) (fun _ h => h.trans (.advanceDraws 1 _)) (fun c _ h => h.trans (.asEvent (.takeCrossing c) _)) _ s
    (.refl s)

theorem KeepsClaims.takeDue (s : State) : KeepsClaims s (takeDue s) :=
  takeDue_keeps (P := KeepsClaims s) (fun _ h => h.trans (.advanceDraws 1 _)) (fun c _ h => h.trans (.asEvent (.takeCrossing c) _)) s
    (.refl s)

theorem KeepsClaims.takeRefEnds (n : Nat) (s : State) : KeepsClaims s (takeRefEnds n s) :=
  takeRefEnds_keeps (P := KeepsClaims s) (fun _ h => h.trans (.asEvent .refWindowEnd _)) n s (.refl s)

/-! ### The speed authority's requests (R162, R163, R170, R171) -/

theorem KeepsClaims.takeRelease (m : Master) (s : State) : KeepsClaims s (takeRelease m s) :=
  .of_changeSlot rfl rfl fun h => h.setMasterSlot m none

theorem KeepsClaims.takeClaim (m : Master) (l : BitVec 8) (v : BitVec 16) (s : State) : KeepsClaims s (takeClaim m l v s) := by
  unfold Machine.takeClaim
  split
  · exact .refl s
  · exact .of_changeSlot rfl rfl fun h => h.setMasterSlot m _

/-- The slots filled are those filled before. -/
theorem ClaimsAgree.of_filled {s : State} {u : SpeedUnit} (h : ClaimsAgree s)
    (hu : ∀ k, (u.slots.get k).isSome = (s.speed.slots.get k).isSome) : ClaimsAgree (s.withSpeed u) := by
  obtain ⟨href, hreg, hlabel, hruns, hjob⟩ := h
  exact ⟨by rw [State.withSpeed_speed, hu]; exact href, by rw [State.withSpeed_speed, hu]; exact hreg,
    by rw [State.withSpeed_speed, hu]; exact hlabel, hruns, hjob⟩

theorem KeepsClaims.takeRunSpeed {run crawl : Nat} (hrun : run ≤ Config.speedMax) (hcrawl : crawl ≤ Config.speedMax) (s : State) :
    KeepsClaims s (takeRunSpeed run crawl s) := by
  refine ⟨jobsSound_of_jobs (by simp), fun h => h.takeRunSpeed hrun hcrawl, fun _ h => h.of_filled fun k => ?_⟩
  rw [recomputeGranted_slots]
  split
  · rfl
  · next c hc =>
    rw [changeSlot_slots]
    by_cases hk : k = .label
    · subst hk
      rw [PerSlot.get_set_same]
      exact (congrArg Option.isSome hc).symm
    · rw [PerSlot.get_set_other _ _ _ _ hk]

theorem KeepsClaims.takeGate (g : Bool) (s : State) : KeepsClaims s (takeGate g s) := by
  refine ⟨jobsSound_of_jobs (by simp), fun h => h.takeGate g, fun _ h => ?_⟩
  unfold Machine.takeGate
  split
  · exact h
  · exact h.of_filled fun k => by rw [arbitrate_slots]

/-! ### The job unit's requests (R45 to R54) -/

/-- Arm Job moves the reference only while there is no head job, and so out of no window (R46). -/
theorem KeepsClaims.armStaged {s : State} (h : judgeArm s = .ok) : KeepsClaims s (armStaged s) := by
  have hspeed : (Machine.armStaged s).speed = s.speed := by simp only [Machine.armStaged]; split <;> rfl
  refine ⟨(Keeps.armStaged h).jobs, by rw [hspeed]; exact id, fun _ hc => ?_⟩
  have harmed : ClaimsAgree (s.withJobs (markArmed true s.jobs)) := hc.of_jobs rfl (fun _ => id) fun _ _ _ hn => hn
  obtain ⟨href, -, -, hruns, -⟩ := hc
  simp only [Machine.armStaged]
  split
  · next hnone =>
    refine harmed.setRef ⟨fun hl => RefState.noConfusion hl, fun hl => ?_⟩ (by simp)
    have hhead := hruns (.inr (.inr hl))
    rw [Option.isNone_iff_eq_none.mp hnone] at hhead
    exact absurd hhead (by simp)
  · exact harmed

/-- End Job in SEEKING moves the reference while there is no head job, and so out of no window (R49). -/
theorem KeepsClaims.withdrawArming {s : State} (h : s.jobs.head = none) : KeepsClaims s (withdrawArming s) := by
  refine ⟨(Keeps.withdrawArming s).jobs, id, fun _ hc => ?_⟩
  have hunarmed : ClaimsAgree (s.withJobs (markArmed false s.jobs)) := hc.of_jobs rfl (fun _ => id) fun _ _ _ hn => hn
  obtain ⟨href, -, -, hruns, -⟩ := hc
  refine hunarmed.setRef ⟨fun hl => RefState.noConfusion hl, fun hl => ?_⟩ (by simp)
  have hhead := hruns (.inr (.inr hl))
  rw [h] at hhead
  exact absurd hhead (by simp)

/-- The reference goes IDLE and releases a REF claim (R12). -/
theorem KeepsClaims.endReference (j : JobRecord) (s : State) : KeepsClaims s (endReference j s) := by
  have hcomplete := KeepsClaims.completeNewest (fun _ => j.length) s
  have href := (StaysPlaced.completeNewest (fun _ => j.length) s).ref
  simp only [Machine.endReference]
  split
  · refine hcomplete.trans (.setRefSlot ?_ ?_) <;> simp
  · next hlost => refine hcomplete.trans (.setRef ?_ ?_) <;> simp [href, hlost]

theorem endReference_idle (j : JobRecord) (s : State) : (endReference j s).pos.ref.state = .idle := by
  simp only [endReference]
  split <;> rfl

/-- The head job stays in the slots as the tail job, while the reference runs no more (R50). -/
theorem KeepsClaims.headToTail {h : HeadJob} {s : State} (hh : s.jobs.head = some h) (ht : s.jobs.tail = none)
    (hidle : s.pos.ref.state = .idle) : KeepsClaims s (headToTail h s) := by
  refine ⟨(Keeps.headToTail hh ht).jobs, id, fun _ hc => hc.of_jobs rfl (fun hr => ?_) fun st tag _ hsome => ?_⟩
  · simp [ReferenceRuns, hidle] at hr
  · rcases jobOf_isSome_iff.mp hsome with ⟨x, hx, hnum⟩ | ⟨t, hx, -⟩
    · rw [hh] at hx
      obtain rfl := Option.some.inj hx
      exact jobOf_isSome_iff.mpr (.inr ⟨_, rfl, hnum⟩)
    · rw [ht] at hx
      exact absurd hx (by simp)

theorem KeepsClaims.endHead {h : HeadJob} {s : State} (hf : judgeEnd s = .finish h) : KeepsClaims s (endHead h s) := by
  obtain ⟨hh, ht⟩ := judgeEnd_finish hf
  exact (KeepsClaims.endReference h.record s).trans <|
    (KeepsClaims.headToTail (by rwa [endReference_jobs]) (by rwa [endReference_jobs]) (endReference_idle _ _)).trans (.restKnife _)

theorem judgeEnd_withdraw {s : State} (h : judgeEnd s = .withdraw) : s.jobs.head = none := by
  unfold judgeEnd at h
  split at h
  · assumption
  · split at h <;> exact absurd h (by simp)

theorem KeepsClaims.serveEndJob (s : State) : KeepsClaims s (serveEndJob s).1 := by
  unfold Machine.serveEndJob
  split
  · exact .refl s
  · exact .refl s
  · next h => exact .withdrawArming (judgeEnd_withdraw h)
  · next h => exact .endHead h

theorem KeepsClaims.closeAtLineReset (s : State) (l : Lane) : KeepsClaims s (closeAtLineReset s l) := by
  unfold Machine.closeAtLineReset
  split
  · exact .refl s
  · exact (KeepsClaims.of_view (by simp [claimView])).trans (.closeRoll _ _ _ _)

/-- Line Reset empties the path and releases the internal claims with their conditions (R54, R173). -/
theorem KeepsClaims.lineReset (s : State) : KeepsClaims s (lineReset s) := by
  have hslots : (Machine.lineReset s).speed.slots
      = (((rollsClosedAt s).speed.slots.set .ref none).set .reg none).set .label none := by
    rw [lineReset_speed]; exact arbitrate_slots _ _
  obtain ⟨-, hjobs, hoff, -⟩ := lineReset_path s
  have hidle : (Machine.lineReset s).pos.ref.state = .idle := by rw [lineReset_pos]; rfl
  refine ⟨(Keeps.lineReset s).jobs, fun h => ?_, fun _ _ => ⟨?_, ?_, ?_, fun hr => ?_, fun st hst => ?_⟩⟩
  · rw [lineReset_speed]
    exact ((KeepsClaims.foldl KeepsClaims.closeAtLineReset allLanes s).speed h).releaseInternal
  · rw [hslots, hidle]
    exact ⟨fun h => Bool.noConfusion (h : false = true), fun h => RefState.noConfusion h⟩
  · rw [hslots]
    refine ⟨fun h => Bool.noConfusion (h : false = true), fun ⟨st, hst⟩ => ?_⟩
    rw [hoff st] at hst
    exact StationState.noConfusion hst
  · rw [hslots, lineReset_labels]; rfl
  · simp [ReferenceRuns, hidle] at hr
  · exact absurd (by rw [hoff st]; rfl) hst

/-! ### Teach Offsets (R79) -/

/-- Like job slots hold jobs of the same numbers. -/
theorem SlotsAlike.jobOf_isSome {s t : State} (h : SlotsAlike s.jobs t.jobs) {tag : Nat} (hs : (jobOf tag s).isSome = true) :
    (jobOf tag t).isSome = true := by
  rcases jobOf_isSome_iff.mp hs with ⟨x, hx, hnum⟩ | ⟨x, hx, hnum⟩
  · obtain ⟨y, hy, hk⟩ := h.symm.of_head hx
    exact jobOf_isSome_iff.mpr (.inl ⟨y, hy, (key_number hk).trans hnum⟩)
  · obtain ⟨y, hy, hk, -⟩ := h.symm.of_tail hx
    exact jobOf_isSome_iff.mpr (.inr ⟨y, hy, (key_number hk).trans hnum⟩)

theorem KeepsClaims.teachStation (s : State) (st : Station) : KeepsClaims s (teachStation s st) := by
  have hlike := teachStation_jobs s st
  have hview : claimView (Machine.teachStation s st) = claimView (s.withJobs (Machine.teachStation s st).jobs) := by
    unfold Machine.teachStation
    split
    · exact claimView_setStation rfl rfl
    · rfl
  refine ⟨hlike.jobsSound, by rw [teachStation_speed]; exact id, fun _ h => h.of_jobs hview (fun _ hh => ?_) fun _ _ _ => hlike.jobOf_isSome⟩
  obtain ⟨x, hx⟩ := Option.isSome_iff_exists.mp hh
  obtain ⟨y, hy, -⟩ := hlike.symm.of_head hx
  rw [hy]; rfl

theorem KeepsClaims.teachAll (s : State) : KeepsClaims s (teachAll s) := .foldl KeepsClaims.teachStation _ s

/-! ### The label unit's requests and Cut Fault -/

theorem KeepsClaims.setLabelState (n : Nat) (st : LabelState) (s : State) : KeepsClaims s (setLabelState n st s) := .of_view rfl

theorem KeepsClaims.takeOldestLabel (r : LabelRecord) (rest : List LabelRecord) (s : State) :
    KeepsClaims s (takeOldestLabel r rest s) :=
  (KeepsClaims.of_view rfl : KeepsClaims s (s.withLabels { s.labels with queue := rest })).trans
    ((KeepsClaims.claimAfterRemoval _).trans (.setLabelState _ _ _))

theorem KeepsClaims.reissueLabel (e : HistoryEntry) (s : State) : KeepsClaims s (reissueLabel e s) := by
  unfold Machine.reissueLabel
  refine KeepsClaims.trans ?_ (.setLabelState _ _ _)
  split
  · exact .removeLabel _ s
  · exact .refl s

theorem KeepsClaims.mergeBack (l : Lane) (c : HistoryEntry) (s : State) : KeepsClaims s (mergeBack l c s) := by
  have hbatch (u : State) : KeepsClaims u (withdrawFromBatch c u) := .of_view (by simp [claimView])
  simp only [Machine.mergeBack]
  refine KeepsClaims.trans ?_ ((KeepsClaims.setLabelState _ _ _).trans (hbatch _))
  split
  · exact (KeepsClaims.setLane _ _ s).trans (.removeLabel _ _)
  · exact .setLane _ _ s

theorem KeepsClaims.serveCutFault (lane : BitVec 8) (n : BitVec 32) (s : State) : KeepsClaims s (serveCutFault lane n s).1 := by
  unfold Machine.serveCutFault
  repeat' split
  · exact .refl s
  · exact .refl s
  · exact .setLane _ _ s
  · exact .mergeBack _ _ s

/-! ### Every request -/

/-- The requests that write a claim, a condition of one or the job slots. -/
def movesClaims : Request → Bool
  | .claim _ _ | .release | .setRunSpeed _ _ | .setClaimGate _ | .cutFault _ _ | .takeLabel | .relabel _ => true
  | r => movesJobs r

/-- The other requests leave the speed authority and the claim-held flag too. -/
theorem serve_claimView (m : Master) {r : Request} (hr : movesClaims r = false) (s : State) :
    claimView (serve m r s).1 = claimView s := by
  cases r
  case claim | release | setRunSpeed | setClaimGate | cutFault | takeLabel | relabel | setGeometry | loadJob | armJob | endJob | lineReset
      | teachOffsets => exact Bool.noConfusion (hr : true = false)
  case embossHold | embossRelease => simp [serve, serveEmbossHold, serveEmbossRelease, claimView]
  case startRoll =>
    simp only [serve, serveStartRoll]
    split
    · rfl
    · simp [claimView]
  case readNotices | takeTrims | readSamplePlan | readBatches => rfl
  all_goals
    simp only [serve, serveStatus, serveReadRepeat, serveReadRolls, serveSetNoticeMask, serveSetBroadcast, serveReseedSampling,
      serveSetSeedLock, serveShadeSample, serveDefectMark, serveCloseBatch, serveRetireBatch, serveLabelApplied]
    repeat' split
    all_goals rfl

/-- A request's effect keeps the laws (R180). -/
theorem KeepsClaims.serve (m : Master) (r : Request) (s : State) : KeepsClaims s (serve m r s).1 := by
  cases hr : movesClaims r with
  | false => exact .of_view (serve_claimView m hr s)
  | true =>
    cases r
    case claim =>
      simp only [Machine.serve, serveClaim]
      split
      · exact .refl s
      · exact .takeClaim _ _ _ s
    case release => exact .takeRelease m s
    case setRunSpeed run crawl => exact .takeRunSpeed (clampSpeed_le run) (clampSpeed_le crawl) s
    case setClaimGate =>
      simp only [Machine.serve, serveSetClaimGate]
      split
      · exact .refl s
      · exact .takeGate _ s
    case cutFault => exact .serveCutFault _ _ s
    case takeLabel =>
      simp only [Machine.serve, serveTakeLabel]
      split
      · exact .refl s
      · exact .takeOldestLabel _ _ s
    case relabel =>
      simp only [Machine.serve, serveRelabel]
      repeat' split
      · exact .refl s
      · exact .refl s
      · exact .reissueLabel _ s
    case setGeometry d p e =>
      refine ⟨(Keeps.serveSetGeometry d p e s).jobs, ?_, fun _ => ?_⟩ <;> simp only [Machine.serve, Machine.serveSetGeometry]
      · repeat' split
        all_goals exact id
      · repeat' split
        all_goals exact fun h => h.of_jobs rfl (fun _ => id) fun _ _ _ hn => hn
    case loadJob p =>
      refine ⟨(Keeps.serveLoadJob p s).jobs, ?_, fun _ => ?_⟩ <;> simp only [Machine.serve, Machine.serveLoadJob]
      · repeat' split
        all_goals exact id
      · repeat' split
        all_goals exact fun h => h.of_jobs rfl (fun _ => id) fun _ _ _ hn => hn
    case armJob =>
      simp only [Machine.serve, serveArmJob]
      split
      · next h _ => exact .armStaged h
      · exact .refl s
    case endJob => exact .serveEndJob s
    case lineReset => exact .lineReset s
    case teachOffsets => exact .teachAll s
    all_goals exact Bool.noConfusion (hr : false = true)

/-! ### O56 -/

theorem KeepsClaims.assertReset (s : State) : KeepsClaims s (assertReset s) :=
  ⟨(Keeps.assertReset s).jobs, fun _ => arbitrated_reset, fun _ _ => claimsAgree_of_view rfl claimsAgree_reset⟩

theorem keepsClaims_commandLaw (s : State) : CommandLaw (KeepsClaims s) where
  link _ _ h := h.trans (.of_view rfl)
  knives _ _ h := h.trans (.of_view rfl)
  edge _ _ h := h.trans (.of_view rfl)
  interval _ h := h.trans (.asEvent (fun _ => .of_view (by simp [claimView, takeInterval])) _)
  mark _ h := h.trans (.asEvent .takeReferenceMark _)
  splice _ h := h.trans (.asEvent .takeSplice _)
  stationMark _ st h := h.trans (.asEvent (.takeStationMark st) _)
  request _ m r h := h.trans (.asEvent (.serve m r) _)
  claim _ m l v h := h.trans (.asEvent (.takeClaim m l v) _)
  release _ m h := h.trans (.asEvent (.takeRelease m) _)
  refEnds _ n h := h.trans (.takeRefEnds n _)
  due _ h := h.trans (.takeDue _)
  drained _ h := h.trans (.drain _)
  reset _ h := h.trans (.assertReset _)
  released _ _ _ _ h := h.trans (.of_view rfl)

/-- Settles O56: each part of a command keeps arbitration's law and the claims in agreement with their conditions
(`keepsClaims_commandLaw`). -/
theorem stepKeepsArbitration : Obligations.StepKeepsArbitration := by
  intro s t h
  have hkeeps : KeepsClaims s t := by
    rcases step_cases h with ⟨-, rfl⟩ | ⟨c, rest, -, he⟩
    · exact .refl _
    · exact (keepsClaims_commandLaw s).exec (.of_view (s := s) (t := s.withPending rest) rfl) he
  exact ⟨hkeeps.speed, hkeeps.agree⟩

end Sys2Proof.Machine

/-! O12: a station mark that matches nothing. -/

namespace Sys2Proof.Machine

open Sys2Proof

/-- A station stray leaves every window end that the stations have registered. -/
theorem stationStray_stationEnd (st : Station) (s : State) : stationEnd (stationStray st s) = stationEnd s := by
  funext x
  by_cases hx : x = st
  · subst hx; simp [stationEnd, stationStray, setStation]
  · simp [stationEnd, stationStray, setStation, PerStation.get_set_other _ _ _ _ hx]

theorem Settled.stationStray {s : State} (h : Settled s) (st : Station) : Settled (stationStray st s) :=
  h.of_registered (registered_of_windows rfl (stationStray_stationEnd st s) rfl rfl rfl rfl) rfl

/-- STATION_MARK is its own effect where it changes neither the granted speed nor the embosser's mark and leaves a settled state. -/
theorem exec_stationMark_of_settled {s t : State} {st : Station} (hr : s.pins.resetLow = false) (hc : s.model.embossNoticed = false)
    (ht : takeStationMark st s = t) (hspeed : t.speed = s.speed) (hset : Settled t) : exec (.stationMark st) s = .next t := by
  subst ht
  rw [exec, execStationMark, unlessReset_of_high hr, asEvent_of_granted (by rw [hspeed]) hc (by rw [takeStationMark_model, hc]),
    takeDue_of_settled hset]

/-- A mark of a station that is OFF is ignored (R66). -/
theorem takeStationMark_off {s : State} {st : Station} (h : (s.register.get st).state = .off) : takeStationMark st s = s := by
  simp only [takeStationMark, h, if_true]

section

variable {s : State} {st : Station} (hon : (s.register.get st).state ≠ .off)

include hon

/-- A mark while the cursor waits is a stray (R66). -/
theorem takeStationMark_waiting (hwaits : cursorRepeat st s = none) : takeStationMark st s = stationStray st s := by
  simp only [takeStationMark, hon, if_false, hwaits]

/-- A mark at station 7 before its record's emboss status is written is a stray (R65). -/
theorem takeStationMark_undecided {rec : Repeat} (hcur : cursorRepeat st s = some rec) (hdefers : defersMiss st rec = true) :
    takeStationMark st s = stationStray st s := by
  cases hwin : (s.register.get st).window with
  | none => simp only [takeStationMark, hon, if_false, hcur, hwin]
  | some w => simp only [takeStationMark, hon, if_false, hcur, hwin, hdefers, if_true]

/-- A mark outside the window is a stray (R66). -/
theorem takeStationMark_outside {w : Window} (hwin : (s.register.get st).window = some w)
    (hout : s.pos.linePos + w.halfWidth < w.centre ∨ w.centre + w.halfWidth < s.pos.linePos) :
    takeStationMark st s = stationStray st s := by
  have hin : inWindow s.pos.linePos w = false := by
    rw [Bool.eq_false_iff]
    simp only [inWindow, ne_eq, Bool.and_eq_true, decide_eq_true_eq, not_and, not_le]
    omega
  cases hcur : cursorRepeat st s with
  | none => exact takeStationMark_waiting hon hcur
  | some rec => simp only [takeStationMark, hon, if_false, hcur, hwin, hin, Bool.false_eq_true, ite_self]

end

/-- Settles O12. -/
theorem stationMarkStray : Obligations.StationMarkStray := by
  intro s st hr hc hset
  refine ⟨fun hoff => exec_stationMark_of_settled hr hc (takeStationMark_off hoff) rfl hset, fun hon hcase => ?_⟩
  have hstray : takeStationMark st s = stationStray st s := by
    rcases hcase with hwaits | ⟨rec, hcur, rfl, hpending⟩ | ⟨w, hwin, hout⟩
    · exact takeStationMark_waiting hon hwaits
    · exact takeStationMark_undecided hon hcur (by simp [defersMiss, hpending])
    · exact takeStationMark_outside hon hwin hout
  exact exec_stationMark_of_settled hr hc hstray rfl (hset.stationStray st)

end Sys2Proof.Machine

/-! O15: the trim arithmetic. -/

namespace Sys2Proof.Machine

open Sys2Proof

theorem guardLimit_eq (limit : Nat) : guardLimit limit = ((limit : Int) + 64) * 256 := by
  unfold guardLimit
  push_cast
  rfl

/-- Rounding half away from zero keeps the sign and rounds the magnitude (conventions, Rounding). -/
theorem roundDiv_256 (n : Int) : (roundDiv n 256).natAbs = (n.natAbs + 128) / 256 ∧ 0 ≤ roundDiv n 256 * n := by
  have hsign : 0 ≤ n ∧ 0 ≤ roundDiv n 256 ∨ n < 0 ∧ roundDiv n 256 ≤ 0 := by
    unfold roundDiv
    split <;> omega
  refine ⟨?_, ?_⟩
  · unfold roundDiv
    split <;> omega
  · rcases hsign with ⟨h, h'⟩ | ⟨h, h'⟩
    · exact mul_nonneg h' h
    · exact mul_nonneg_of_nonpos_of_nonpos h' h.le

/-- Settles O15: the accumulator and the trim are clamped to ranges about 0, and T_raw is the accumulator over 256, rounded. -/
theorem trimUpdateArithmetic : Obligations.TrimUpdateArithmetic := by
  refine ⟨fun limit a r => ?_, fun e err r => ⟨fun h => by rw [trimUpdate, if_pos h], fun h => by rw [trimUpdate, if_neg (by omega)]⟩⟩
  intro r' c g
  have hguard : guardLimit limit = g := guardLimit_eq limit
  have hg : -g ≤ g := by simp only [g, c]; omega
  have hc : -c ≤ c := by simp only [c]; omega
  have hacc : r'.accumulator = clamp (-g) g a := by rw [← hguard]; rfl
  have htrim : r'.trim = clamp (-c) c (roundDiv r'.accumulator 256) := rfl
  obtain ⟨hmagnitude, hsign⟩ := roundDiv_256 r'.accumulator
  obtain ⟨haccLow, haccHigh⟩ := clamp_mem hg a
  obtain ⟨htrimLow, htrimHigh⟩ := clamp_mem hc (roundDiv r'.accumulator 256)
  rw [← hacc] at haccLow haccHigh
  rw [← htrim] at htrimLow htrimHigh
  exact ⟨roundDiv r'.accumulator 256, hacc.trans (clamp_eq _ _ _ hg), hmagnitude, hsign, htrim.trans (clamp_eq _ _ _ hc), bne_iff_ne, rfl,
    htrimLow, htrimHigh, haccLow, haccHigh, rfl⟩

end Sys2Proof.Machine

/-! O41: Teach Offsets, station by station. -/

namespace Sys2Proof.Machine

open Sys2Proof

/-! ### Folds over distinct elements -/

/-- A reading that one element alone can change is, after a fold over distinct elements, what that element makes of it. -/
theorem foldl_at {α β γ : Type} {f : β → α → β} {p : β → γ} {a : α} (hkeep : ∀ b x, x ≠ a → p (f b x) = p b) {xs : List α}
    (hnodup : xs.Nodup) (ha : a ∈ xs) (b : β) : ∃ c, p c = p b ∧ p (xs.foldl f b) = p (f c a) := by
  have hothers (ys : List α) (hys : a ∉ ys) (b : β) : p (ys.foldl f b) = p b := by
    induction ys generalizing b with
    | nil => rfl
    | cons y ys ih =>
      rw [List.mem_cons, not_or] at hys
      exact (ih hys.2 _).trans (hkeep b y (Ne.symm hys.1))
  obtain ⟨before, after, rfl⟩ := List.append_of_mem ha
  obtain ⟨-, hafter, hdisjoint⟩ := List.nodup_append.mp hnodup
  refine ⟨before.foldl f b, hothers _ (fun h => hdisjoint a h a (by simp) rfl) b, ?_⟩
  rw [List.foldl_append, List.foldl_cons]
  exact hothers _ (List.nodup_cons.mp hafter).1 _

theorem allStations_nodup : allStations.Nodup := by decide

theorem stationNumber_injective {x y : Station} (h : stationNumber x = stationNumber y) : x = y := by
  have hall : ∀ x ∈ allStations, ∀ y ∈ allStations, stationNumber x = stationNumber y → x = y := by decide
  exact hall x (mem_allStations x) y (mem_allStations y) h

/-! ### The offset that a station is taught (R79) -/

/-- What the outcome of Teach Offsets at a station rests on: the station's record, its offset and W in its own job, and D_cut. -/
def teachView (st : Station) (s : State) :=
  (s.register.get st, stationOffset st s, (stationJob st s).map (·.halfWindow), s.jobs.geometry)

/-- The offset that Teach Offsets gives a station, when it is taught. -/
def taughtOffset (st : Station) (s : State) : Option Nat :=
  match teachOutcome st s, stationOffset st s with
  | .taught, some a => some ((a : Int) + (s.register.get st).lastError).toNat
  | _, _ => none

theorem teachInRange_iff (dCut halfWindow : Nat) (v : Int) :
    teachInRange dCut halfWindow v = true ↔ 0 ≤ v ∧ v ≤ (dCut : Int) - halfWindow - 1 := by
  simp only [teachInRange, Bool.and_eq_true, decide_eq_true_eq]
  omega

/-- The model's outcome is TAUGHT where R79 says so. -/
theorem taught_iff {st : Station} {a : Nat} {s : State} :
    Taught st a s ↔ teachOutcome st s = .taught ∧ stationOffset st s = some a := by
  have hjob : stationJob st s = none → stationOffset st s = none := fun h => by rw [stationOffset, h]; rfl
  simp only [Taught, teachOutcome]
  cases (s.register.get st).state with
  | off | armed | lost => simp
  | tracking | holding =>
    cases (s.register.get st).teachReady with
    | false => simp
    | true =>
      cases hj : stationJob st s with
      | none => simp [hjob hj]
      | some j =>
        cases hoff : stationOffset st s with
        | none => simp
        | some b =>
          simp only [Bool.not_true, Bool.false_eq_true, if_false, ite_eq_left_iff, reduceCtorEq, imp_false, not_not, teachInRange_iff,
            Option.some.injEq, true_and, or_true, true_or, exists_eq_left']
          constructor
          · rintro ⟨rfl, hlow, hhigh⟩; exact ⟨⟨hlow, hhigh⟩, rfl⟩
          · rintro ⟨⟨hlow, hhigh⟩, rfl⟩; exact ⟨rfl, hlow, hhigh⟩

theorem taughtOffset_eq_some_iff {st : Station} {v : Nat} {s : State} :
    taughtOffset st s = some v ↔ ∃ a, Taught st a s ∧ ((a : Int) + (s.register.get st).lastError).toNat = v := by
  simp only [taught_iff, taughtOffset]
  cases teachOutcome st s <;> cases stationOffset st s <;> simp

theorem taughtOffset_eq_none {st : Station} {s : State} (h : ∀ a, ¬Taught st a s) : taughtOffset st s = none := by
  rw [Option.eq_none_iff_forall_ne_some]
  intro v hv
  obtain ⟨a, ha, -⟩ := taughtOffset_eq_some_iff.mp hv
  exact h a ha

theorem taughtOffset_of_taught {st : Station} {a : Nat} {s : State} (h : Taught st a s) :
    taughtOffset st s = some ((a : Int) + (s.register.get st).lastError).toNat := taughtOffset_eq_some_iff.mpr ⟨a, h, rfl⟩

theorem taught_congr {st : Station} {a : Nat} {s t : State} (h : teachView st t = teachView st s) : Taught st a t ↔ Taught st a s := by
  simp only [teachView, Prod.mk.injEq] at h
  obtain ⟨hreg, hoff, hhalf, hgeo⟩ := h
  have hrange (u : State) (v d : Int) : (∃ j, stationJob st u = some j ∧ v ≤ d - j.halfWindow - 1)
      ↔ ∃ w, (stationJob st u).map (·.halfWindow) = some w ∧ v ≤ d - w - 1 := by
    simp [Option.map_eq_some_iff]
  simp only [Taught, hreg, hoff, hgeo, hrange, hhalf]

theorem taughtOffset_congr {st : Station} {s t : State} (h : teachView st t = teachView st s) : taughtOffset st t = taughtOffset st s := by
  have hreg : t.register.get st = s.register.get st := congrArg Prod.fst h
  refine Option.ext fun v => ?_
  simp only [taughtOffset_eq_some_iff, taught_congr h, hreg]

/-! ### What teaching a station writes (R79) -/

/-- A station entry of the job numbered `n` after a station has been taught. -/
def teachEntry (s : State) (n : Nat) (e : StationEntry) (st : Station) : StationEntry :=
  if (s.register.get st).job = some n ∧ e.station = stationNumber st then { e with offset := (taughtOffset st s).getD e.offset } else e

/-- A job record after a station has been taught. -/
def teachRecord (s : State) (j : JobRecord) (st : Station) : JobRecord :=
  { j with stations := j.stations.map fun e => teachEntry s j.number e st }

/-- The job slots with the head job's record changed by `f`, and the tail job's, unless it has the head job's number (R48). -/
def teachSlots (f : JobRecord → JobRecord) (u : JobUnit) : JobUnit :=
  { u with
    head := u.head.map fun h => { h with record := f h.record }
    tail := u.tail.map fun x => if u.head.map (·.record.number) = some x.record.number then x else { x with record := f x.record } }

theorem teachEntry_station (s : State) (n : Nat) (e : StationEntry) (st : Station) : (teachEntry s n e st).station = e.station := by
  unfold teachEntry
  split <;> rfl

theorem teachEntry_other {s : State} {n : Nat} {e : StationEntry} {st : Station} (h : e.station ≠ stationNumber st) :
    teachEntry s n e st = e := if_neg fun hc => h hc.2

theorem teachEntry_untaught {s : State} {st : Station} (h : taughtOffset st s = none) (n : Nat) (e : StationEntry) :
    teachEntry s n e st = e := by
  unfold teachEntry
  split
  · rw [h]; rfl
  · rfl

theorem teachEntry_taught {s : State} {n v : Nat} {e : StationEntry} {st : Station} (hjob : (s.register.get st).job = some n)
    (hst : e.station = stationNumber st) (h : taughtOffset st s = some v) : teachEntry s n e st = { e with offset := v } := by
  rw [teachEntry, if_pos ⟨hjob, hst⟩, h]
  rfl

theorem teachRecord_untaught {s : State} {st : Station} (h : taughtOffset st s = none) (j : JobRecord) : teachRecord s j st = j := by
  simp only [teachRecord, teachEntry_untaught h, List.map_id']

theorem teachRecord_otherJob {s : State} {j : JobRecord} {st : Station} (h : (s.register.get st).job ≠ some j.number) :
    teachRecord s j st = j := by
  simp only [teachRecord, teachEntry, h, false_and, if_false, List.map_id']

theorem teachRecord_taught {s : State} {j : JobRecord} {st : Station} {v : Nat} (hjob : (s.register.get st).job = some j.number)
    (h : taughtOffset st s = some v) : teachRecord s j st = j.withOffset st v := by
  simp only [teachRecord, teachEntry, JobRecord.withOffset, hjob, h, true_and, Option.getD_some, beq_iff_eq]

theorem teachRecord_congr {s t : State} {st : Station} (h : teachView st t = teachView st s) (j : JobRecord) :
    teachRecord t j st = teachRecord s j st := by
  have hreg : t.register.get st = s.register.get st := congrArg Prod.fst h
  simp only [teachRecord, teachEntry, taughtOffset_congr h, hreg]

theorem teachSlots_id (u : JobUnit) : teachSlots (fun j => j) u = u := by
  have htail : (u.tail.map fun x => if u.head.map (·.record.number) = some x.record.number then x else { x with record := x.record })
      = u.tail := by
    simp only [ite_self, Option.map_id']
  have hhead : (u.head.map fun h => { h with record := h.record }) = u.head := Option.map_id'
  unfold teachSlots
  rw [htail, hhead]

theorem teachSlots_teachSlots {f g : JobRecord → JobRecord} (hf : ∀ j, (f j).number = j.number) (u : JobUnit) :
    teachSlots g (teachSlots f u) = teachSlots (fun j => g (f j)) u := by
  simp only [teachSlots, Option.map_map, Function.comp_def, hf]
  congr 2
  funext x
  by_cases h : u.head.map (fun h => h.record.number) = some x.record.number <;> simp [h, hf]

/-- A tag names the changed record of the job it named. -/
theorem jobOf_teachSlots {f : JobRecord → JobRecord} (hf : ∀ j, (f j).number = j.number) {s t : State}
    (ht : t.jobs = teachSlots f s.jobs) (tag : Nat) : jobOf tag t = (jobOf tag s).map f := by
  simp only [jobOf, ht, teachSlots]
  cases s.jobs.head with
  | none =>
    cases s.jobs.tail with
    | none => rfl
    | some x => by_cases hx : x.record.number = tag <;> simp [hf, hx]
  | some h =>
    by_cases hh : h.record.number = tag
    · simp [hf, hh]
    · cases s.jobs.tail with
      | none => simp [hf, hh]
      | some x =>
        by_cases hx : x.record.number = tag
        · simp [hf, hh, hx]
        · by_cases hne : h.record.number = x.record.number <;> simp [hf, hh, hx, hne]

theorem jobOf_number {tag : Nat} {s : State} {j : JobRecord} (h : jobOf tag s = some j) : j.number = tag := by
  have htail (x : Option TailJob) (hx : (x.bind fun t => if t.record.number == tag then some t.record else none) = some j) :
      j.number = tag := by
    obtain ⟨t, -, ht⟩ := Option.bind_eq_some_iff.mp hx
    simp only [Option.ite_none_right_eq_some, beq_iff_eq, Option.some.injEq] at ht
    obtain ⟨hnum, rfl⟩ := ht
    exact hnum
  unfold jobOf at h
  split at h
  · split at h
    · next hnum =>
      obtain rfl := Option.some.inj h
      exact beq_iff_eq.mp hnum
    · exact htail _ h
  · exact htail _ h

/-! ### Teaching one station (R79) -/

theorem stationJob_number {st : Station} {s : State} {j : JobRecord} (h : stationJob st s = some j) :
    (s.register.get st).job = some j.number := by
  obtain ⟨tag, htag, hj⟩ := Option.bind_eq_some_iff.mp h
  rw [htag, jobOf_number hj]

theorem teachStation_untaught {st : Station} {s : State} (h : taughtOffset st s = none) : teachStation s st = s := by
  unfold teachStation
  split
  · next hout _ hoff => rw [taughtOffset, hout, hoff] at h; exact absurd h (by simp)
  · rfl

theorem teachStation_taught {st : Station} {v : Nat} {s : State} (h : taughtOffset st s = some v) :
    ∃ j, stationJob st s = some j ∧ teachStation s st
      = setStation st { s.register.get st with teachReady := false } (s.withJobs (writeOffset j.number st v s.jobs)) := by
  obtain ⟨a, ha, rfl⟩ := taughtOffset_eq_some_iff.mp h
  obtain ⟨hout, hoff⟩ := taught_iff.mp ha
  obtain ⟨j, hj, -⟩ := Option.bind_eq_some_iff.mp hoff
  refine ⟨j, hj, ?_⟩
  simp only [teachStation, hout, stationJob_number hj, hoff]

/-- The model's writing of an offset changes the record of its number, the head job's before the tail job's. -/
theorem writeOffset_eq_teachSlots (n : Nat) (st : Station) (v : Nat) (u : JobUnit) :
    writeOffset n st v u = teachSlots (fun i => if i.number = n then i.withOffset st v else i) u := by
  have hx (x : TailJob) : (if x.record.number = n then { x with record := x.record.withOffset st v } else x)
      = { x with record := if x.record.number = n then x.record.withOffset st v else x.record } := by
    split <;> rfl
  cases hhead : u.head with
  | none => simp only [writeOffset, teachSlots, hhead, hx, Option.map_none, reduceCtorEq, if_false]
  | some h =>
    by_cases hn : h.record.number = n
    · have hkeep (x : TailJob) : (if n = x.record.number then x
          else { x with record := if x.record.number = n then x.record.withOffset st v else x.record }) = x := by
        by_cases hxn : n = x.record.number
        · rw [if_pos hxn]
        · rw [if_neg hxn, if_neg (Ne.symm hxn)]
      simp only [writeOffset, teachSlots, hhead, hn, if_true, Option.map_some, Option.some.injEq, hkeep, Option.map_id']
    · have hsame (x : TailJob) : (if h.record.number = x.record.number then x
          else { x with record := if x.record.number = n then x.record.withOffset st v else x.record })
          = { x with record := if x.record.number = n then x.record.withOffset st v else x.record } := by
        by_cases hxn : h.record.number = x.record.number
        · rw [if_pos hxn, if_neg (hxn ▸ hn)]
        · rw [if_neg hxn]
      simp only [writeOffset, teachSlots, hhead, hn, if_false, hx, Option.map_some, Option.some.injEq, hsame]

/-- The job slots after a station has been taught: its entry in its own job has the taught offset, and nothing else differs. -/
theorem teachStation_slots (s : State) (st : Station) : (teachStation s st).jobs = teachSlots (teachRecord s · st) s.jobs := by
  cases hv : taughtOffset st s with
  | none => simp only [teachStation_untaught hv, teachRecord_untaught hv, teachSlots_id]
  | some v =>
    obtain ⟨j, hj, heq⟩ := teachStation_taught hv
    have hjob := stationJob_number hj
    have hrecord (i : JobRecord) : teachRecord s i st = if i.number = j.number then i.withOffset st v else i := by
      by_cases hi : i.number = j.number
      · rw [if_pos hi, teachRecord_taught (hi ▸ hjob) hv]
      · rw [if_neg hi, teachRecord_otherJob (by rw [hjob]; exact fun e => hi (Option.some.inj e).symm)]
    rw [heq, setStation_jobs, State.withJobs_jobs, writeOffset_eq_teachSlots]
    simp only [hrecord]

theorem teachRecord_number (s : State) (j : JobRecord) (st : Station) : (teachRecord s j st).number = j.number := rfl

/-- Teaching a station changes the record of every station's job as it changes the records. -/
theorem stationJob_teachStation (s : State) (st x : Station) :
    stationJob st (teachStation s x) = (stationJob st s).map (teachRecord s · x) := by
  have hjob : ((teachStation s x).register.get st).job = (s.register.get st).job := by
    unfold teachStation
    split
    · by_cases hx : st = x
      · simp [setStation, hx]
      · simp [setStation, PerStation.get_set_other _ _ _ _ hx]
    · rfl
  rw [stationJob, hjob, stationJob, Option.map_bind]
  congr 1
  funext tag
  exact jobOf_teachSlots (teachRecord_number s · x) (teachStation_slots s x) tag

/-- An entry of a taught job record is the first entry of its station, taught. -/
theorem entry_teachRecord (s : State) (j : JobRecord) (st x : Station) :
    (teachRecord s j x).entry st = (j.entry st).map fun e => teachEntry s j.number e x := by
  simp only [JobRecord.entry, teachRecord, List.find?_map, Function.comp_def, teachEntry_station]

theorem entry_station {j : JobRecord} {st : Station} {e : StationEntry} (h : j.entry st = some e) : e.station = stationNumber st :=
  beq_iff_eq.mp (List.find?_some (p := fun e : StationEntry => e.station == stationNumber st) h)

/-- Teaching one station leaves what the outcome of another rests on. -/
theorem teachView_teachStation {st x : Station} (hx : x ≠ st) (s : State) : teachView st (teachStation s x) = teachView st s := by
  have hreg : (teachStation s x).register.get st = s.register.get st := by
    unfold teachStation
    split
    · simp [setStation, PerStation.get_set_other _ _ _ _ hx.symm]
    · rfl
  have hentry (j : JobRecord) : (teachRecord s j x).entry st = j.entry st := by
    rw [entry_teachRecord]
    cases he : j.entry st with
    | none => rfl
    | some e =>
      have hne : e.station ≠ stationNumber x := fun h => hx (stationNumber_injective (h.symm.trans (entry_station he)))
      rw [Option.map_some, teachEntry_other hne]
  have hgeo : (teachStation s x).jobs.geometry = s.jobs.geometry := by rw [teachStation_slots]; rfl
  simp only [teachView, stationOffset, stationJob_teachStation, hreg, hgeo, Option.map_map, Option.bind_map, Function.comp_def, hentry]
  rfl

/-- A taught station has its taught offset, and its teach-ready flag clear (R79). -/
theorem teachStation_of_taught {st : Station} {v : Nat} {s : State} (h : taughtOffset st s = some v) :
    (teachStation s st).register.get st = { s.register.get st with teachReady := false }
      ∧ stationOffset st (teachStation s st) = some v := by
  obtain ⟨j, hj, heq⟩ := teachStation_taught h
  obtain ⟨a, ha, -⟩ := taughtOffset_eq_some_iff.mp h
  obtain ⟨-, hoff⟩ := taught_iff.mp ha
  refine ⟨by rw [heq]; simp [setStation], ?_⟩
  simp only [stationOffset, hj, Option.bind_some, Option.map_eq_some_iff] at hoff
  obtain ⟨e, he, -⟩ := hoff
  rw [stationOffset, stationJob_teachStation, hj, Option.map_some, Option.bind_some, entry_teachRecord, he, Option.map_some,
    teachEntry_taught (stationJob_number hj) (entry_station he) h]
  rfl

/-- The state after stations 1 to 7 have been taught, at one station. -/
theorem teachAll_station (st : Station) (s : State) :
    (∀ v, taughtOffset st s = some v → (teachAll s).register.get st = { s.register.get st with teachReady := false }
        ∧ stationOffset st (teachAll s) = some v)
      ∧ (taughtOffset st s = none → (teachAll s).register.get st = s.register.get st
        ∧ stationOffset st (teachAll s) = stationOffset st s) := by
  obtain ⟨c, hc, hfold⟩ := foldl_at (f := teachStation) (p := teachView st) (fun b x hx => teachView_teachStation hx b) allStations_nodup
    (mem_allStations st) s
  have htaught := taughtOffset_congr hc
  simp only [teachView, Prod.mk.injEq] at hc hfold
  obtain ⟨hreg, hoff, -, -⟩ := hc
  obtain ⟨hreg', hoff', -, -⟩ := hfold
  rw [teachAll, hreg', hoff', ← hreg, ← hoff, ← htaught]
  refine ⟨fun v hv => teachStation_of_taught hv, fun hv => ?_⟩
  rw [teachStation_untaught hv]
  exact ⟨rfl, rfl⟩

/-! ### Teaching all stations (R79) -/

/-- A job record after stations 1 to 7 have been taught. -/
def teachRecords (s : State) (j : JobRecord) : JobRecord := allStations.foldl (teachRecord s) j

/-- What is taught station by station is what the state beforehand teaches each of them. -/
theorem foldl_teachStation_slots (xs : List Station) (hnodup : xs.Nodup) (s : State) :
    (xs.foldl teachStation s).jobs = teachSlots (fun j => xs.foldl (teachRecord s) j) s.jobs := by
  induction xs generalizing s with
  | nil => exact (teachSlots_id s.jobs).symm
  | cons x xs ih =>
    obtain ⟨hx, hxs⟩ := List.nodup_cons.mp hnodup
    have hothers (j : JobRecord) : xs.foldl (teachRecord (teachStation s x)) j = xs.foldl (teachRecord s) j :=
      List.foldl_ext _ _ _ fun i y hy => teachRecord_congr (teachView_teachStation (ne_of_mem_of_not_mem hy hx).symm s) i
    rw [List.foldl_cons, ih hxs, teachStation_slots, teachSlots_teachSlots (teachRecord_number s · x)]
    simp only [hothers, List.foldl_cons]

theorem teachAll_slots (s : State) : (teachAll s).jobs = teachSlots (teachRecords s) s.jobs :=
  foldl_teachStation_slots allStations allStations_nodup s

theorem foldl_teachRecord (s : State) (xs : List Station) (j : JobRecord) :
    xs.foldl (teachRecord s) j = { j with stations := j.stations.map fun e => xs.foldl (teachEntry s j.number) e } := by
  induction xs generalizing j with
  | nil => simp
  | cons x xs ih =>
    rw [List.foldl_cons, ih]
    simp only [teachRecord, List.map_map, Function.comp_def, List.foldl_cons]

/-- The entry, when it is one of the station's. -/
def entryFor (st : Station) (e : StationEntry) : Option StationEntry := if e.station = stationNumber st then some e else none

theorem entryFor_inj {st : Station} {e e' : StationEntry} (h : e.station = stationNumber st) (heq : entryFor st e' = entryFor st e) :
    e' = e := by
  rw [entryFor, entryFor, if_pos h, Option.ite_none_right_eq_some] at heq
  exact Option.some.inj heq.2

/-- Of the seven stations only the entry's own teaches it. -/
theorem foldl_teachEntry_own {s : State} {n : Nat} {e : StationEntry} {st : Station} (h : e.station = stationNumber st) :
    allStations.foldl (teachEntry s n) e = teachEntry s n e st := by
  have hkeep (b : StationEntry) (x : Station) (hx : x ≠ st) : entryFor st (teachEntry s n b x) = entryFor st b := by
    by_cases hb : b.station = stationNumber st
    · rw [teachEntry_other fun hbx => hx (stationNumber_injective (hbx.symm.trans hb))]
    · rw [entryFor, entryFor, teachEntry_station, if_neg hb, if_neg hb]
  obtain ⟨c, hc, hfold⟩ := foldl_at hkeep allStations_nodup (mem_allStations st) e
  obtain rfl := entryFor_inj h hc
  exact entryFor_inj ((teachEntry_station s n c st).trans h) hfold

/-- The record after Teach Offsets is the one that R79 describes. -/
theorem teachesRecord (s : State) (j : JobRecord) : TeachesRecord s j (teachRecords s j) := by
  rw [teachRecords, foldl_teachRecord]
  refine ⟨rfl, ?_⟩
  rw [List.forall₂_map_right_iff, List.forall₂_same]
  refine fun e _ => ⟨fun st a hst ha hjob => ?_, fun h => List.foldl_fixed' (fun st => ?_) allStations⟩
  · rw [foldl_teachEntry_own hst, teachEntry_taught hjob hst (taughtOffset_of_taught ha)]
  · by_cases hst : (s.register.get st).job = some j.number ∧ e.station = stationNumber st
    · exact teachEntry_untaught (taughtOffset_eq_none fun a ha => h st a hst.2 ha hst.1) _ _
    · exact if_neg hst

/-- Teaching changes the job slots and the register unit alone. -/
theorem teachAll_eq (s : State) : teachAll s = (s.withJobs (teachAll s).jobs).withRegister (teachAll s).register := by
  have hrest : ((teachAll s).withJobs s.jobs).withRegister s.register = s :=
    foldl_keeps (fun u => (u.withJobs s.jobs).withRegister s.register) teachStation
      (fun u st => by unfold teachStation; split <;> rfl) allStations s
  exact congrArg (fun u => (u.withJobs (teachAll s).jobs).withRegister (teachAll s).register) hrest

theorem teachStation_withLink (v : LinkUnit) (s : State) (st : Station) :
    teachStation (s.withLink v) st = (teachStation s st).withLink v := by
  cases h : taughtOffset st s with
  | none => rw [teachStation_untaught h, teachStation_untaught ((taughtOffset_congr (t := s.withLink v) rfl).trans h)]
  | some n =>
    obtain ⟨j, hj, heq⟩ := teachStation_taught h
    obtain ⟨i, hi, heq'⟩ := teachStation_taught ((taughtOffset_congr (t := s.withLink v) rfl).trans h)
    obtain rfl := Option.some.inj (hj.symm.trans hi)
    rw [heq, heq']
    rfl

/-- The link's state has no part in teaching. -/
theorem teachAll_withLink (v : LinkUnit) (s : State) : teachAll (s.withLink v) = (teachAll s).withLink v :=
  List.foldl_hom (State.withLink · v) (teachStation_withLink v)

theorem serve_teachOffsets (s : State) :
    serve .line .teachOffsets (beginAnswer s)
      = (beginAnswer (teachAll s), okAnswer (listBytes (allStations.map (teachEntryBytes s (teachAll s))))) := by
  have hteach : teachAll (beginAnswer s) = beginAnswer (teachAll s) := by
    rw [beginAnswer, setLink, teachAll_withLink, beginAnswer, setLink, teachAll_link]
  show (teachAll (beginAnswer s), _) = _
  rw [hteach]
  rfl

/-- Settles O41: what a station is taught rests on its own record and its own entry, so the stations in turn make of the state
what the state beforehand says of each. -/
theorem teachOffsets : Obligations.TeachOffsets := by
  unfold Obligations.TeachOffsets
  intro s tag hr
  refine ⟨teachAll s, exec_of_serve (r := .teachOffsets) rfl hr rfl rfl (serve_teachOffsets s) (teachAll_speed s) (teachAll_model s),
    teachAll_eq s, by rw [teachAll_slots]; rfl, fun hh => ?_, fun ht => ?_, fun h hh => ?_, fun x hx => ?_, fun st => ?_⟩
  · rw [teachAll_slots, teachSlots, hh]; rfl
  · rw [teachAll_slots, teachSlots, ht]; rfl
  · refine ⟨teachRecords s h.record, ?_, teachesRecord s h.record⟩
    rw [teachAll_slots, teachSlots, hh]
    rfl
  · by_cases hsame : s.jobs.head.map (·.record.number) = some x.record.number
    · refine ⟨x.record, ?_, fun hne => ?_, fun _ _ _ => rfl⟩
      · simp only [teachAll_slots, teachSlots, hx, Option.map_some, hsame, if_true]
      · obtain ⟨h, hh, hnum⟩ := Option.map_eq_some_iff.mp hsame
        exact absurd hnum (hne h hh)
    · refine ⟨teachRecords s x.record, ?_, fun _ => teachesRecord s x.record, fun h hh hnum => ?_⟩
      · simp only [teachAll_slots, teachSlots, hx, Option.map_some, hsame, if_false]
      · exact absurd (by rw [hh, Option.map_some, hnum]) hsame
  · obtain ⟨htaught, huntaught⟩ := teachAll_station st s
    exact ⟨fun a ha => htaught _ (taughtOffset_of_taught ha), fun h => huntaught (taughtOffset_eq_none h)⟩

end Sys2Proof.Machine

/-! O57 at the embosser: its agreement with its causes rests on the emboss unit and the measured speed, every move keeps it, and the
test of the causes restores it after any change of them. -/

namespace Sys2Proof.Machine

open Sys2Proof

/-! ### What the agreement rests on -/

/-- The agreement of the embosser with its part, which a change of the lift causes leaves: NONE exactly without an emboss part,
SETTLING exactly while the settle count is above 0, an emboss part only with a nip job (R83, R84, R91). -/
def PartAgrees (u : EmbossUnit) : Prop :=
  (u.state = .none ↔ u.part = none) ∧ (u.state = .settling ↔ u.settleCount ≠ 0) ∧ (u.part.isSome = true → u.nipJob.isSome = true)

/-- An emboss part is held with its nip job, and no cause is in force (R84). -/
def Unlifted (s : State) : Prop := s.emboss.part.isSome = true ∧ s.emboss.nipJob.isSome = true ∧ anyCause s = false

theorem elAsserted_iff (s : State) : elAsserted s = true ↔ s.emboss.state = .lifted := beq_iff_eq

theorem embossSound_iff (s : State) : EmbossSound s ↔
    PartAgrees s.emboss ∧ (s.emboss.state = .lifted ↔ s.emboss.part.isSome = true ∧ anyCause s = true) :=
  ⟨fun ⟨_, hnone, hlifted, hsettling, hjob⟩ => ⟨⟨hnone, hsettling, hjob⟩, hlifted⟩,
    fun ⟨⟨hnone, hsettling, hjob⟩, hlifted⟩ => ⟨elAsserted_iff s, hnone, hlifted, hsettling, hjob⟩⟩

theorem EmbossSound.partAgrees {s : State} (h : EmbossSound s) : PartAgrees s.emboss := ((embossSound_iff s).mp h).1

/-- What the embosser's agreement reads: the emboss unit, and the measured speed for the low-speed cause (R87). -/
def embossView (s : State) := (s.emboss, s.pos.speed)

theorem embossView_of_kept {s t : State} (he : t.emboss = s.emboss) (hp : t.pos = s.pos) : embossView t = embossView s := by
  rw [embossView, he, hp, embossView]

theorem EmbossSound.of_view {s t : State} (hv : embossView t = embossView s) (h : EmbossSound s) : EmbossSound t := by
  obtain ⟨he, hp⟩ := Prod.mk.inj hv
  unfold EmbossSound elAsserted anyCause lowSpeedCause spliceCause at h ⊢
  rwa [he, hp]

theorem EmbossSound.of_kept {s t : State} (he : t.emboss = s.emboss) (hp : t.pos = s.pos) (h : EmbossSound s) : EmbossSound t :=
  h.of_view (embossView_of_kept he hp)

/-- The registration of the nip crossing has no part in the agreement. -/
theorem EmbossSound.withNipReg {s : State} (h : EmbossSound s) (p : Option Nat) :
    EmbossSound (s.withEmboss { s.emboss with nipReg := p }) := h

/-- The nip cursor moves on, and has no part in the agreement either. -/
theorem EmbossSound.withNipCursor {s : State} (h : EmbossSound s) (n : Nat) :
    EmbossSound ((s.withMap { s.map with nipCursor := n }).withEmboss { s.emboss with nipReg := none }) := h

theorem EmbossSound.part_isSome {s : State} (h : EmbossSound s) (hs : s.emboss.state ≠ .none) : s.emboss.part.isSome = true :=
  Option.isSome_iff_ne_none.mpr fun hpart => hs (h.partAgrees.1.mpr hpart)

/-- An embosser that has a part and is not LIFTED has no cause in force (R84). -/
theorem EmbossSound.unlifted {s : State} (h : EmbossSound s) (hnone : s.emboss.state ≠ .none) (hlifted : s.emboss.state ≠ .lifted) :
    Unlifted s := by
  have hpart := h.part_isSome hnone
  obtain ⟨⟨-, -, hjob⟩, hcause⟩ := (embossSound_iff s).mp h
  exact ⟨hpart, hjob hpart, Bool.eq_false_iff.mpr fun hany => hlifted (hcause.mpr ⟨hpart, hany⟩)⟩

/-! ### The moves of the embosser (R84, R85, R91) -/

@[simp] theorem anyCause_moveEmboss (state : EmbossState) (n : Nat) (s : State) : anyCause (moveEmboss state n s) = anyCause s := by
  simp only [anyCause, lowSpeedCause, spliceCause, moveEmboss_emboss, moveEmboss_pos]

/-- Without an emboss part the embosser is NONE (R91). -/
theorem embossSound_none {s : State} (h : s.emboss.part = none) : EmbossSound (moveEmboss .none 0 s) := by
  simp [embossSound_iff, PartAgrees, h]

/-- A cause in force lifts the embosser (R84). -/
theorem embossSound_lifted {s : State} (hpart : s.emboss.part.isSome = true) (hjob : s.emboss.nipJob.isSome = true)
    (hcause : anyCause s = true) : EmbossSound (moveEmboss .lifted 0 s) := by
  simp [embossSound_iff, PartAgrees, hpart, hjob, hcause, Option.isSome_iff_ne_none.mp hpart]

/-- Without a cause the embosser is SETTLING while the settle count is above 0, and ENGAGED at 0 (R84, R85). -/
theorem Unlifted.embossSound {s : State} (h : Unlifted s) (n : Nat) :
    EmbossSound (moveEmboss (if n = 0 then .engaged else .settling) n s) := by
  obtain ⟨hpart, hjob, hcause⟩ := h
  by_cases hn : n = 0 <;> simp [embossSound_iff, PartAgrees, hn, hjob, hcause, Option.isSome_iff_ne_none.mp hpart]

theorem beginSettling_eq (s : State) :
    beginSettling s = moveEmboss (if partSettle s = 0 then .engaged else .settling) (partSettle s) s := by
  unfold beginSettling
  split
  · next h => rw [h]
  · rfl

/-- The test of the causes brings an embosser in agreement with its part into agreement with its causes (R84). -/
theorem embossSound_retestCauses {s : State} (h : PartAgrees s.emboss) : EmbossSound (retestCauses s) := by
  have hstays (hs : s.emboss.state = .lifted ↔ s.emboss.part.isSome = true ∧ anyCause s = true) : EmbossSound s :=
    (embossSound_iff s).mpr ⟨h, hs⟩
  obtain ⟨hnone, -, hjob⟩ := h
  have hpart (hs : s.emboss.state ≠ .none) : s.emboss.part.isSome = true := Option.isSome_iff_ne_none.mpr (mt hnone.mpr hs)
  have hlowered (hn : s.emboss.state ≠ .none) (hl : s.emboss.state ≠ .lifted) :
      EmbossSound (if anyCause s then moveEmboss .lifted 0 s else s) := by
    split
    · next hcause => exact embossSound_lifted (hpart hn) (hjob (hpart hn)) hcause
    · next hfree => exact hstays (iff_of_false hl fun hlift => hfree hlift.2)
  unfold retestCauses
  cases hs : s.emboss.state with
  | none => exact hstays (by simp [hs, hnone.mp hs])
  | lifted =>
    have hsome := hpart (by rw [hs]; decide)
    dsimp only
    split
    · next hcause => exact hstays (iff_of_true hs ⟨hsome, hcause⟩)
    · next hfree =>
      rw [beginSettling_eq]
      exact Unlifted.embossSound ⟨hsome, hjob hsome, Bool.eq_false_iff.mpr hfree⟩ _
  | settling | engaged => exact hlowered (by rw [hs]; decide) (by rw [hs]; decide)

/-! ### The hold flag, the splice lifts and the interval (R86 to R89) -/

theorem EmbossSound.setHold {s : State} (h : EmbossSound s) (v : Bool) : EmbossSound (setHold v s) :=
  embossSound_retestCauses (s := s.withEmboss { s.emboss with hold := v }) h.partAgrees

/-- Another splice lift list, and the causes found again (R89). -/
theorem EmbossSound.retestLifts {s : State} (h : EmbossSound s) (lifts : List SpliceLift) :
    EmbossSound (retestCauses (s.withEmboss { s.emboss with lifts := lifts })) :=
  embossSound_retestCauses (s := s.withEmboss { s.emboss with lifts := lifts }) h.partAgrees

theorem EmbossSound.takeInterval {s : State} (h : EmbossSound s) : EmbossSound (takeInterval s) :=
  embossSound_retestCauses h.partAgrees

theorem EmbossSound.placeLift {s : State} (h : EmbossSound s) (rec : Repeat) : EmbossSound (placeLift rec s) := by
  unfold Machine.placeLift
  split
  · dsimp only
    split
    · exact h
    · exact h.retestLifts _
  · exact h

theorem EmbossSound.liftStart {s : State} (h : EmbossSound s) (n : Nat) : EmbossSound (liftStart n s) := h.retestLifts _

theorem EmbossSound.removeLifts {s : State} (h : EmbossSound s) (p : SpliceLift → Bool) : EmbossSound (removeLifts p s) := by
  unfold Machine.removeLifts
  split
  · exact h.retestLifts _
  · exact h

theorem EmbossSound.liftEnd {s : State} (h : EmbossSound s) (n : Nat) : EmbossSound (liftEnd n s) := h.removeLifts _

/-! ### The nip (R85, R90, R91) -/

theorem EmbossSound.lowerSettle {s : State} (h : EmbossSound s) : EmbossSound (lowerSettle s) := by
  unfold Machine.lowerSettle
  split
  · next hs => exact (h.unlifted (by rw [hs.1]; decide) (by rw [hs.1]; decide)).embossSound _
  · exact h

theorem EmbossSound.settleStep {s : State} (h : EmbossSound s) : EmbossSound (settleStep s) := by
  unfold Machine.settleStep
  split
  · next hs => exact (h.unlifted (by rw [hs]; decide) (by rw [hs]; decide)).embossSound _
  · exact h

/-- The switch of the nip job takes the embosser to NONE without a part, out of NONE with the first part, and from part to part as
the causes then ask (R91). -/
theorem EmbossSound.switchNipJob {s : State} (h : EmbossSound s) (rec : Repeat) : EmbossSound (switchNipJob rec s) := by
  unfold Machine.switchNipJob
  generalize (jobOf rec.job s).bind nipPartOf = new
  dsimp only
  obtain ⟨hnone, hsettling, -⟩ := h.partAgrees
  split
  · exact embossSound_none rfl
  · split
    · next hcause => exact embossSound_lifted rfl rfl hcause
    · next hcause =>
      rw [beginSettling_eq]
      exact Unlifted.embossSound ⟨rfl, rfl, Bool.eq_false_iff.mpr hcause⟩ _
  · next hold =>
    refine EmbossSound.lowerSettle (embossSound_retestCauses ⟨?_, hsettling, fun _ => rfl⟩)
    exact iff_of_false (fun hs => by simp [hnone.mp hs] at hold) (by simp)

theorem EmbossSound.arriveAtNip {s : State} (h : EmbossSound s) (rec : Repeat) : EmbossSound (arriveAtNip rec s) := by
  unfold Machine.arriveAtNip
  split
  · exact h.switchNipJob rec
  · exact h

theorem EmbossSound.writeEmboss {s : State} (h : EmbossSound s) (rec : Repeat) : EmbossSound (writeEmboss rec s) := by
  have hwritten (f : Repeat → Repeat) : EmbossSound (updateRepeat rec.serial f s) := h.of_kept (by simp) (by simp)
  simp only [Machine.writeEmboss]
  split
  · exact (hwritten _).settleStep
  · exact hwritten _

theorem EmbossSound.passNip {s : State} (h : EmbossSound s) (rec : Repeat) : EmbossSound (passNip rec s) := by
  simp only [Machine.passNip]
  refine EmbossSound.of_kept (station7Status_emboss _ _) (station7Status_pos _ _) ?_
  exact ((h.removeLifts _).writeEmboss rec).withNipCursor _

theorem EmbossSound.settleNip (n : Nat) {s : State} (h : EmbossSound s) : EmbossSound (settleNip n s) := by
  induction n generalizing s with
  | zero => exact h
  | succ n ih =>
    simp only [Machine.settleNip]
    split
    · exact h
    · next rec _ =>
      split
      · exact ih ((h.arriveAtNip rec).passNip rec)
      · exact (h.arriveAtNip rec).withNipReg _

theorem EmbossSound.restNip {s : State} (h : EmbossSound s) : EmbossSound (restNip s) := h.settleNip _

theorem EmbossSound.nipCrossing {s : State} (h : EmbossSound s) : EmbossSound (nipCrossing s) := by
  unfold Machine.nipCrossing
  split
  · exact h
  · next rec _ => exact (h.passNip rec).restNip

end Sys2Proof.Machine

/-! O57 at a creation, at the crossings, at the requests and at a step. -/

namespace Sys2Proof.Machine

open Sys2Proof

/-! ### Splices and creation (R11 to R16) -/

theorem EmbossSound.flagSplice {s : State} (h : EmbossSound s) (n : Repeat) : EmbossSound (flagSplice n s) := by
  unfold Machine.flagSplice
  split
  · exact h
  · refine EmbossSound.of_kept (recheckStations_emboss _) (recheckStations_pos _) (EmbossSound.placeLift ?_ n)
    exact h.of_kept (raiseNotice_emboss _ _) (raiseNotice_pos _ _)

/-- The splice positions that wait have no part in the agreement. -/
theorem EmbossSound.withSplices {s : State} (h : EmbossSound s) (l : List Nat) :
    EmbossSound (s.withPos { s.pos with splices := l }) := h

theorem EmbossSound.resolveSplices {s : State} (h : EmbossSound s) : EmbossSound (resolveSplices s) := by
  unfold Machine.resolveSplices
  repeat' split
  · exact h
  · exact (h.withSplices _).flagSplice _
  · exact h

theorem EmbossSound.takeSplice {s : State} (h : EmbossSound s) : EmbossSound (takeSplice s) := by
  unfold Machine.takeSplice
  dsimp only
  repeat' split
  · exact h
  · exact h
  · exact h.flagSplice _
  · exact h
  · exact h
  · exact h.withSplices _
  · exact h.of_kept (raiseNotice_emboss _ _) (raiseNotice_pos _ _)

theorem EmbossSound.completeNewest {s : State} (h : EmbossSound s) (f : Repeat → Nat) : EmbossSound (completeNewest f s) := by
  unfold Machine.completeNewest
  split
  · exact h
  · exact (h.of_kept (updateRepeat_emboss _ _ _) (updateRepeat_pos _ _ _)).resolveSplices

theorem StaysPlaced.embossView {s t : State} (h : StaysPlaced s t) (he : t.emboss = s.emboss) : embossView t = embossView s := by
  obtain ⟨_, _, hp⟩ := h
  simp [Machine.embossView, he, hp]

theorem EmbossSound.namedAt {s : State} (h : EmbossSound s) (start : Nat) : EmbossSound (namedAt start s) := by
  have hserial := (h.completeNewest fun r => start - r.start).of_view ((StaysPlaced.takeSerial _).embossView (takeSerial_emboss _))
  exact hserial.of_kept (nameJob_emboss _ _ _) (nameJob_pos _ _ _)

theorem EmbossSound.cursorsAtCreation {s : State} (h : EmbossSound s) (rec : Repeat) : EmbossSound (cursorsAtCreation rec s) := by
  have hstations : EmbossSound (stationsAtCreation rec s) := h.of_kept (stationsAtCreation_emboss _ _) (stationsAtCreation_pos _ _)
  simp only [Machine.cursorsAtCreation]
  refine EmbossSound.of_view ((StaysPlaced.of_knife (.knifeAtCreation rec _)).embossView (knifeAtCreation_emboss rec _)) ?_
  split
  · exact hstations.restNip
  · exact hstations

theorem EmbossSound.createRepeat {s : State} (h : EmbossSound s) (j : JobRecord) (start : Nat) (o : Origin) (res : StationResult) :
    EmbossSound (createRepeat j start o res s) := by
  have hjoined : EmbossSound (joinedAt j start o res s) := (h.namedAt start).of_kept (appendRepeat_emboss _ _) (appendRepeat_pos _ _)
  rw [createRepeat_eq]
  exact (hjoined.cursorsAtCreation _).of_kept (designate_emboss _ _) (designate_pos _ _)

/-! ### The reference (R4 to R10) -/

/-- The reference's record has no part in the agreement. -/
theorem EmbossSound.setRef {s : State} (h : EmbossSound s) (r : RefRecord) : EmbossSound (setRef r s) := h

theorem EmbossSound.markedRepeat {s : State} (h : EmbossSound s) (j : JobRecord) (err : Int) : EmbossSound (markedRepeat j err s) := by
  rw [markedRepeat_reads (p := EmbossSound) (fun _ _ => rfl) (fun _ _ => rfl)]
  exact (h.createRepeat _ _ _ _).setRef _

theorem EmbossSound.takeReferenceMark {s : State} (h : EmbossSound s) : EmbossSound (takeReferenceMark s) := by
  have hstray : EmbossSound (refStray s) := h.setRef _
  unfold Machine.takeReferenceMark
  split
  · exact h
  · split
    · exact h
    · exact h.markedRepeat _ _
  all_goals
    split
    · split
      · exact h.markedRepeat _ _
      · exact hstray
    · exact hstray

theorem EmbossSound.refWindowEnd {s : State} (h : EmbossSound s) : EmbossSound (refWindowEnd s) := by
  cases hw : refWindow s with
  | none => rwa [refWindowEnd_of_none hw]
  | some w =>
    obtain ⟨p, j, -, -, hj, -⟩ := refWindow_eq_some hw
    rw [refWindowEnd_reads (p := EmbossSound) (fun _ _ => rfl) (fun _ _ => rfl) hw hj]
    exact (h.createRepeat _ _ _ _).setRef _

/-! ### Crossings and events -/

theorem EmbossSound.takeCrossing {s : State} (h : EmbossSound s) (c : Crossing) : EmbossSound (takeCrossing c s) := by
  cases c with
  | refWindowEnd => exact h.refWindowEnd
  | stationWindowEnd st => exact h.of_kept (stationWindowEnd_emboss st s) (stationWindowEnd_pos st s)
  | nip => exact h.nipCrossing
  | liftStart n => exact h.liftStart n
  | liftEnd n => exact h.liftEnd n
  | knife => exact h.of_view ((StaysPlaced.of_knife (.knifeCrossing s)).embossView (knifeCrossing_emboss s))

theorem EmbossSound.asEvent {f : State → State} (hf : ∀ u, EmbossSound u → EmbossSound (f u)) {s : State} (h : EmbossSound s) :
    EmbossSound (asEvent f s) := by
  rw [asEvent_reads (p := EmbossSound) (fun _ _ => rfl) (fun _ _ => rfl)]
  exact hf _ h

theorem EmbossSound.drain {s : State} (h : EmbossSound s) : EmbossSound (drain s) :=
  drainFuel_keeps (P := EmbossSound) (fun _ hu => hu) (fun c _ hu => hu.asEvent fun _ hv => hv.takeCrossing c) _ s h

theorem EmbossSound.takeDue {s : State} (h : EmbossSound s) : EmbossSound (takeDue s) :=
  takeDue_keeps (P := EmbossSound) (fun _ hu => hu) (fun c _ hu => hu.asEvent fun _ hv => hv.takeCrossing c) s h

theorem EmbossSound.takeRefEnds {s : State} (h : EmbossSound s) (n : Nat) : EmbossSound (takeRefEnds n s) :=
  takeRefEnds_keeps (P := EmbossSound) (fun _ hu => hu.asEvent fun _ => .refWindowEnd) n s h

/-! ### The requests -/

theorem EmbossSound.endReference {s : State} (h : EmbossSound s) (j : JobRecord) : EmbossSound (endReference j s) := by
  simp only [Machine.endReference]
  split
  · exact ((h.completeNewest _).setRef _).of_kept (setSlot_emboss _ _ _) (setSlot_pos _ _ _)
  · exact (h.completeNewest _).setRef _

theorem EmbossSound.serveEndJob {s : State} (h : EmbossSound s) : EmbossSound (serveEndJob s).1 := by
  unfold Machine.serveEndJob
  split
  · exact h
  · exact h
  · exact h.of_kept rfl rfl
  · next x _ =>
    have hended : EmbossSound (headToTail x (Machine.endReference x.record s)) := (h.endReference x.record).of_kept rfl rfl
    exact hended.of_view ((StaysPlaced.of_knife (.restKnife _)).embossView (restKnife_emboss _))

theorem embossSound_of_reset {s : State} (h : s.emboss = EmbossUnit.reset) : EmbossSound s := by
  rw [embossSound_iff, h]
  simp [PartAgrees, EmbossUnit.reset]

theorem embossSound_lineReset (s : State) : EmbossSound (lineReset s) :=
  embossSound_of_reset (by rw [lineReset_eq, unitsReset_emboss])

/-- The requests that write the emboss unit, or complete a repeat and so may place its splice lift. -/
def movesEmbosser : Request → Bool
  | .embossHold | .embossRelease | .endJob | .lineReset => true
  | _ => false

/-- The other requests leave the emboss unit and the measured speed. -/
theorem serve_embossView (m : Master) {r : Request} (hr : movesEmbosser r = false) (s : State) :
    embossView (serve m r s).1 = embossView s := by
  cases r
  case embossHold | embossRelease | endJob | lineReset => exact Bool.noConfusion (hr : true = false)
  case armJob =>
    simp only [serve, serveArmJob]
    split
    · simp only [armStaged]
      split <;> rfl
    · rfl
  case teachOffsets => exact embossView_of_kept (teachAll_emboss s) (teachAll_pos s)
  case release => exact embossView_of_kept (takeRelease_emboss m s) (takeRelease_pos m s)
  case setRunSpeed => exact embossView_of_kept (takeRunSpeed_emboss _ _ s) (takeRunSpeed_pos _ _ s)
  case readNotices | takeTrims | readSamplePlan | readBatches => rfl
  case claim | setClaimGate | startRoll | takeLabel | relabel | cutFault =>
    simp only [serve, serveClaim, serveSetClaimGate, serveStartRoll, serveTakeLabel, serveRelabel, serveCutFault]
    repeat' split
    all_goals exact embossView_of_kept (by simp) (by simp)
  all_goals
    simp only [serve, serveSetGeometry, serveLoadJob, serveStatus, serveReadRepeat, serveReadRolls, serveSetNoticeMask,
      serveSetBroadcast, serveReseedSampling, serveSetSeedLock, serveShadeSample, serveDefectMark, serveCloseBatch, serveRetireBatch,
      serveLabelApplied]
    repeat' split
    all_goals rfl

/-- A request's effect keeps the agreement (R180). -/
theorem EmbossSound.serve {s : State} (h : EmbossSound s) (m : Master) (r : Request) : EmbossSound (serve m r s).1 := by
  cases hr : movesEmbosser r with
  | false => exact h.of_view (serve_embossView m hr s)
  | true =>
    cases r
    case embossHold => exact h.setHold true
    case embossRelease => exact h.setHold false
    case endJob => exact h.serveEndJob
    case lineReset => exact embossSound_lineReset s
    all_goals exact Bool.noConfusion (hr : false = true)

/-! ### O57 -/

theorem embossSound_commandLaw : CommandLaw EmbossSound where
  link _ _ h := h
  knives _ _ h := h
  edge _ _ h := h
  interval _ h := h.asEvent fun _ => .takeInterval
  mark _ h := h.asEvent fun _ => .takeReferenceMark
  splice _ h := h.asEvent fun _ => .takeSplice
  stationMark _ st h := h.asEvent fun u hu => hu.of_kept (takeStationMark_emboss st u) (takeStationMark_pos st u)
  request _ m r h := h.asEvent fun _ hu => hu.serve m r
  claim _ m l v h := h.asEvent fun u hu => hu.of_kept (takeClaim_emboss m l v u) (takeClaim_pos m l v u)
  release _ m h := h.asEvent fun u hu => hu.of_kept (takeRelease_emboss m u) (takeRelease_pos m u)
  refEnds _ n h := h.takeRefEnds n
  due _ h := h.takeDue
  drained _ h := h.drain
  reset _ _ := embossSound_of_reset rfl
  released _ _ _ _ h := h

/-- Settles O57: each part of a command keeps the embosser in agreement (`embossSound_commandLaw`), since the causes are found again
wherever one of them can have changed. -/
theorem stepKeepsEmbosser : Obligations.StepKeepsEmbosser := by
  intro s t h hs
  rcases step_cases h with ⟨-, rfl⟩ | ⟨c, rest, -, he⟩
  · exact hs
  · exact embossSound_commandLaw.exec (s := s.withPending rest) hs he

end Sys2Proof.Machine

/-! O18: Emboss Hold and Emboss Release. -/

namespace Sys2Proof.Machine

open Sys2Proof

/-- The embosser's move touches nothing that the answer does. -/
theorem embossAt_beginAnswer (p : EmbossState × Nat) (s : State) : embossAt p (beginAnswer s) = beginAnswer (embossAt p s) := by
  have hstate : (beginAnswer s).emboss.state = s.emboss.state := rfl
  unfold embossAt
  rw [hstate]
  split <;> rfl

/-- Where the embosser stands after the hold flag has been set or cleared (R84, R86). -/
def afterHold (v : Bool) (s : State) : EmbossState × Nat :=
  afterCauses (partSettle s) (v || lowSpeedCause s || spliceCause s) s.emboss.state s.emboss.settleCount

theorem setHold_state (v : Bool) (s : State) : (setHold v s).emboss.state = (afterHold v s).1 := by
  rw [setHold, retestCauses_emboss]
  rfl

/-- The hold flag, as an event of its own, is the flag and the move that the causes then ask (R84, R86, R93). -/
theorem asEvent_setHold {s : State} (hc : s.model.embossNoticed = false) (v : Bool) :
    asEvent (setHold v) s = embossAt (afterHold v s) (s.withEmboss { s.emboss with hold := v }) := by
  rw [asEvent_of_grantedKept hc (congrArg SpeedUnit.granted (setHold_speed v s))]
  exact retestCauses_closed (s := s.withEmboss { s.emboss with hold := v }) hc

/-- A request of the line master, without operands, that sets the hold flag to `v` and answers the state after it (R86). -/
theorem exec_of_setHold {i : Instr} {r : Request} {tag : Byte} (hi : i.request = some (.line, tag, r))
    (hp : permitted (requestName r) .line = true) (hl : requestLengthOk r = true) (hafter : ∀ u, afterRequest r u = u) {v : Bool}
    (hserve : ∀ u, serve .line r u = (setHold v u, okAnswer (codeByte (embossStateCode (setHold v u).emboss.state))))
    {s : State} (hr : Ready s) :
    exec i s = .next (answered .line (requestName r) tag .ok (bytesOf 1 (embossStateCode (afterHold v s).1))
      (embossAt (afterHold v s) (s.withEmboss { s.emboss with hold := v }))) := by
  obtain ⟨hreset, hlisten, hclear⟩ := hr
  have hevent : asEvent (setHold v) (beginAnswer s)
      = beginAnswer (embossAt (afterHold v s) (s.withEmboss { s.emboss with hold := v })) :=
    (asEvent_setHold (s := beginAnswer s) hclear v).trans
      (embossAt_beginAnswer (afterHold v s) (s.withEmboss { s.emboss with hold := v }))
  rw [exec_request_listening hi hreset hlisten]
  simp only [takeRequest, hp, hl, hafter, hserve, hevent, setHold_state, Bool.not_true, Bool.false_eq_true, if_false]
  rfl

/-- Settles O18. -/
theorem embossHoldAndRelease : Obligations.EmbossHoldAndRelease := by
  intro s tag hr
  exact ⟨exec_of_setHold (i := .embossHold .line tag) (r := .embossHold) (v := true) rfl rfl rfl (fun _ => rfl) (fun _ => rfl) hr,
    exec_of_setHold (i := .embossRelease .line tag) (r := .embossRelease) (v := false) rfl rfl rfl (fun _ => rfl) (fun _ => rfl) hr⟩

end Sys2Proof.Machine

/-! O5: the end of a strobe. -/

namespace Sys2Proof.Machine

open Sys2Proof

/-- Settles O5. -/
theorem strobeEndLowersKnife : Obligations.StrobeEndLowersKnife := by
  intro s l hhigh
  refine ⟨s.withPins { s.pins with knives := s.pins.knives.set l false }, ?_, PerLane.get_set_same _ _ _,
    fun l' hne => PerLane.get_set_other _ _ _ _ hne, hhigh, rfl⟩
  exact congrArg Host.Outcome.next (unlessReset_of_high hhigh)

end Sys2Proof.Machine

/-! O23: Start Roll. -/

namespace Sys2Proof.Machine

open Sys2Proof

@[simp] theorem laneMaskOf_get (mask : BitVec 8) (l : Lane) : (laneMaskOf mask).get l = mask.getLsbD (laneNumber l) :=
  PerLane.get_tabulate _ l

/-- The forced flag is set on the WINDING lanes of the mask, and no other lane is touched (R110). -/
theorem forceLanes_get (mask : PerLane Bool) (s : State) (l : Lane) :
    (forceLanes mask s).rolls.lanes.get l =
      if mask.get l = true ∧ (s.rolls.lanes.get l).state = .winding then { s.rolls.lanes.get l with forced := true }
      else s.rolls.lanes.get l := by
  simp only [forceLanes, State.withRolls_rolls, PerLane.get_tabulate, forceLane, ite_and]

theorem forceLanes_state (mask : PerLane Bool) (s : State) (l : Lane) :
    ((forceLanes mask s).rolls.lanes.get l).state = (s.rolls.lanes.get l).state := by
  rw [forceLanes_get]
  split <;> rfl

/-- START_ROLL whose effect is the state `t`, with the speed authority and the model's own fields left (R110). -/
theorem exec_startRoll_of_serve {s t : State} (hr : Ready s) {m : Master} (hm : m = .line ∨ m = .rewind) (tag : Byte)
    {mask : BitVec 8} {outcome : OutcomeCode} {values : List Byte}
    (hf : serveStartRoll mask (beginAnswer s) = (beginAnswer t, { outcome := outcome, values := values }))
    (hspeed : t.speed = s.speed) (hmodel : t.model = s.model) :
    exec (.startRoll m tag mask) s = .next (answered m .startRoll tag outcome values t) := by
  have hpermitted : permitted .startRoll m = true := by rcases hm with rfl | rfl <;> rfl
  exact exec_of_serve (r := .startRoll mask) rfl hr hpermitted rfl hf hspeed hmodel

/-- Settles O23. -/
theorem startRollSetsForced : Obligations.StartRollSetsForced := by
  intro s m tag mask hr hm
  refine ⟨fun hbad => ?_, fun hlow hhigh => ?_⟩
  · refine exec_startRoll_of_serve hr hm tag ?_ rfl rfl
    rw [serveStartRoll, if_pos hbad, refusal]
  · refine ⟨(forceLanes (laneMaskOf mask) s).rolls.lanes, fun l => ?_, ?_⟩
    · rw [forceLanes_get, laneMaskOf_get]
    · refine exec_startRoll_of_serve (t := forceLanes (laneMaskOf mask) s) hr hm tag ?_ rfl rfl
      have hforced : forceLanes (laneMaskOf mask) (beginAnswer s) = beginAnswer (forceLanes (laneMaskOf mask) s) := rfl
      have hlanes : (beginAnswer (forceLanes (laneMaskOf mask) s)).rolls = (forceLanes (laneMaskOf mask) s).rolls := rfl
      have hgood : ¬(mask.toNat = 0 ∨ 64 ≤ mask.toNat) := by omega
      simp only [serveStartRoll, if_neg hgood, hforced, hlanes, forceLanes_state, laneMaskOf_get, okAnswer]

end Sys2Proof.Machine

/-! O24: Cut Fault. -/

namespace Sys2Proof.Machine

open Sys2Proof

/-! ### The verdict (R112) -/

/-- The closed roll `c` that a Cut Fault names can still be answered for: it closed last on the lane, which winds, and neither a line
reset closed it nor a withdrawal came before (R112). -/
def FaultLive (l : Lane) (rollId : Nat) (c : HistoryEntry) (s : State) : Prop :=
  (s.rolls.lanes.get l).lastClosed = some rollId ∧ findEntry rollId s = some c ∧ c.reason ≠ .lineReset
    ∧ c.labelState ≠ .withdrawn ∧ (s.rolls.lanes.get l).state = .winding

/-- The closed roll `c` can no longer be merged back: its label has left the queue, or the lane winds another job (R112). -/
def FaultLate (l : Lane) (c : HistoryEntry) (s : State) : Prop :=
  c.labelState = .issued ∨ c.labelState = .applied ∨ (s.rolls.lanes.get l).roll.job ≠ some c.job

theorem judgeCutFault_stale {l : Lane} {rollId : Nat} {c : HistoryEntry} {s : State}
    (h : (s.rolls.lanes.get l).lastClosed ≠ some rollId ∨ findEntry rollId s = none
      ∨ (findEntry rollId s = some c ∧ (c.reason = .lineReset ∨ c.labelState = .withdrawn)) ∨ (s.rolls.lanes.get l).state = .idle) :
    judgeCutFault l rollId s = .stale := by
  unfold judgeCutFault
  rcases h with hlast | hnone | ⟨hfound, hreset | hwithdrawn⟩ | hidle
  · rw [if_pos hlast]
  · simp only [hnone, ite_self]
  · simp only [hfound, hreset, if_true, ite_self]
  · simp only [hfound, hwithdrawn, if_true, ite_self]
  · simp only [hidle, if_true, ite_self]
    cases findEntry rollId s <;> simp only [ite_self]

theorem judgeCutFault_late {l : Lane} {rollId : Nat} {c : HistoryEntry} {s : State} (h : FaultLive l rollId c s)
    (hlate : FaultLate l c s) : judgeCutFault l rollId s = .tooLate := by
  obtain ⟨hlast, hfound, hreason, hlabel, hstate⟩ := h
  simp only [judgeCutFault, hlast, hfound, hreason, hlabel, hstate, ne_eq, not_true_eq_false, reduceCtorEq, if_false]
  rcases hlate with h | h | h
  · rw [if_pos (.inl h)]
  · rw [if_pos (.inr h)]
  · rw [if_pos h, ite_self]

theorem judgeCutFault_merge {l : Lane} {rollId : Nat} {c : HistoryEntry} {s : State} (h : FaultLive l rollId c s)
    (hlate : ¬FaultLate l c s) : judgeCutFault l rollId s = .merge c := by
  obtain ⟨hlast, hfound, hreason, hlabel, hstate⟩ := h
  obtain ⟨hissued, happlied, hjob⟩ : c.labelState ≠ .issued ∧ c.labelState ≠ .applied ∧ (s.rolls.lanes.get l).roll.job = some c.job := by
    simpa only [FaultLate, not_or, not_not] using hlate
  simp only [judgeCutFault, hlast, hfound, hreason, hlabel, hstate, hissued, happlied, hjob, ne_eq, not_true_eq_false, reduceCtorEq,
    or_self, if_false]

/-! ### The merge (R113, R142, R156) -/

@[simp] theorem setLane_get_same (l : Lane) (r : LaneRecord) (s : State) : (setLane l r s).rolls.lanes.get l = r :=
  PerLane.get_set_same _ _ _

theorem setLane_get_other {l x : Lane} (h : x ≠ l) (r : LaneRecord) (s : State) :
    (setLane l r s).rolls.lanes.get x = s.rolls.lanes.get x := PerLane.get_set_other _ _ _ _ h

@[simp] theorem mergeBound_none_left (f : Int → Int → Int) (b : Option Shade) : mergeBound f none b = b := by
  cases b <;> rfl

@[simp] theorem mergeBound_none_right (f : Int → Int → Int) (a : Option Shade) : mergeBound f a none = a := by
  cases a <;> rfl

theorem mergeSum_eq (a b : Int) : mergeSum a b = max (-(2 ^ 31)) (min (2 ^ 31 - 1) (a + b)) := clamp_eq _ _ _ (by decide)

/-- A merge adds the closed roll's accumulators to the open roll's (R113). -/
theorem mergesInto_mergeRoll (c : HistoryEntry) (o : OpenRoll) : MergesInto c o (mergeRoll c o) := by
  refine ⟨rfl, rfl, rfl, mergeSum_eq _ _, mergeSum_eq _ _, mergeSum_eq _ _, fun h => ?_, fun h => ?_, fun h => ?_, fun h => ?_,
    fun a b ha hb => ?_, fun a b ha hb => ?_, rfl, rfl, rfl, rfl, rfl, rfl, rfl, rfl, rfl, rfl⟩
  · simp only [mergeRoll, h, mergeBound_none_left]
  · simp only [mergeRoll, h, mergeBound_none_left]
  · simp only [mergeRoll, h, mergeBound_none_right]
  · simp only [mergeRoll, h, mergeBound_none_right]
  · simp only [mergeRoll, ha, hb, mergeBound, Shade.zipWith, lowerOf]
  · simp only [mergeRoll, ha, hb, mergeBound, Shade.zipWith, higherOf]

/-- The removal of a roll's label releases a held LABEL claim at a depth of 10 or less (R150). -/
theorem removeLabel_claimFollows (n : Nat) (s : State) : LabelClaimFollows s (removeLabel n s) := by
  unfold removeLabel
  refine ⟨fun hdepth hheld => ?_, fun h => ?_⟩
  · rw [claimAfterRemoval_queue] at hdepth
    rw [claimAfterRemoval, if_pos ⟨hdepth, hheld⟩]
    exact ⟨rfl, changeSlot_slots _ _ _, changeSlot_runs _ _ _, changeSlot_settings _ _ _⟩
  · rw [claimAfterRemoval_queue] at h
    rw [claimAfterRemoval, if_neg]
    · exact ⟨rfl, rfl⟩
    · rintro ⟨hdepth, hheld⟩
      rcases h with hdeep | hfree
      · exact absurd hdepth (Nat.not_le.mpr hdeep)
      · exact absurd (hfree.symm.trans hheld) (by simp)

theorem removeLabel_queue (n : Nat) (s : State) :
    (removeLabel n s).labels.queue = s.labels.queue.filter fun r => r.rollId != n := claimAfterRemoval_queue _

/-- The lane record after the closed roll `c` was merged back (R113). -/
def mergedLane (l : Lane) (c : HistoryEntry) (s : State) : LaneRecord :=
  { s.rolls.lanes.get l with roll := mergeRoll c (s.rolls.lanes.get l).roll, forced := true }

/-- The state with the merged open roll and without the label, before the history and the batch table are written (R113, R156). -/
def unlabelled (l : Lane) (c : HistoryEntry) (s : State) : State :=
  if c.labelState = .queued then removeLabel c.rollId (setLane l (mergedLane l c s) s) else setLane l (mergedLane l c s) s

theorem mergeBack_eq (l : Lane) (c : HistoryEntry) (s : State) :
    mergeBack l c s = withdrawFromBatch c (setLabelState c.rollId .withdrawn (unlabelled l c s)) := rfl

@[simp] theorem unlabelled_rolls (l : Lane) (c : HistoryEntry) (s : State) :
    (unlabelled l c s).rolls = (setLane l (mergedLane l c s) s).rolls := by
  unfold unlabelled
  split
  · exact removeLabel_rolls _ _
  · rfl

@[simp] theorem unlabelled_shade (l : Lane) (c : HistoryEntry) (s : State) : (unlabelled l c s).shade = s.shade := by
  unfold unlabelled
  split <;> simp

theorem mergeBack_lanes (l : Lane) (c : HistoryEntry) (s : State) :
    (mergeBack l c s).rolls.lanes = s.rolls.lanes.set l (mergedLane l c s) := by
  rw [mergeBack_eq, withdrawFromBatch_rolls]
  exact congrArg RollUnit.lanes (unlabelled_rolls l c s)

theorem mergeBack_history (l : Lane) (c : HistoryEntry) (s : State) : (mergeBack l c s).rolls.history
    = s.rolls.history.map fun e => if e.rollId = c.rollId then { e with labelState := .withdrawn } else e := by
  rw [mergeBack_eq, withdrawFromBatch_rolls, setLabelState, State.withRolls_rolls, unlabelled_rolls]
  rfl

theorem mergeBack_labels (l : Lane) (c : HistoryEntry) (s : State) : (mergeBack l c s).labels = (unlabelled l c s).labels := by
  rw [mergeBack_eq, withdrawFromBatch_labels, setLabelState_labels]

theorem mergeBack_speed (l : Lane) (c : HistoryEntry) (s : State) : (mergeBack l c s).speed = (unlabelled l c s).speed := by
  rw [mergeBack_eq, withdrawFromBatch_speed, setLabelState_speed]

theorem unlabelled_of_queued {c : HistoryEntry} (h : c.labelState = .queued) (l : Lane) (s : State) :
    (unlabelled l c s).labels.queue = s.labels.queue.filter (fun r => r.rollId != c.rollId)
      ∧ LabelClaimFollows s (unlabelled l c s) := by
  rw [unlabelled, if_pos h]
  exact ⟨removeLabel_queue _ _, removeLabel_claimFollows _ (setLane l (mergedLane l c s) s)⟩

theorem unlabelled_of_not_queued {c : HistoryEntry} (h : c.labelState ≠ .queued) (l : Lane) (s : State) :
    (unlabelled l c s).labels = s.labels ∧ (unlabelled l c s).speed = s.speed := by
  rw [unlabelled, if_neg h]
  exact ⟨rfl, rfl⟩

/-- What becomes of a batch's sums when the roll `c` of it is withdrawn (R142). -/
def loweredBy (c : HistoryEntry) (x : BatchEntry) : BatchEntry :=
  { x with rolls := if x.rolls = 65535 then 65535 else x.rolls - 1
           totalMm := if x.totalMm = 2 ^ 32 - 1 then 2 ^ 32 - 1 else x.totalMm - c.lengthMm }

theorem lowerSum_eq (limit sum n : Nat) : lowerSum limit sum n = if sum = limit then limit else sum - n := by
  unfold lowerSum
  split
  · assumption
  · rfl

theorem mergeBack_shade_of_no_batch {c : HistoryEntry} (h : c.batch = none) (l : Lane) (s : State) :
    (mergeBack l c s).shade = s.shade := by
  rw [mergeBack_eq, withdrawFromBatch, h]
  exact unlabelled_shade l c s

theorem mergeBack_batches {c : HistoryEntry} {b n : Nat} (hb : c.batch = some b) (hn : c.stamp = some n) (l : Lane) (s : State) :
    (mergeBack l c s).shade.batches = s.shade.batches.map fun x => if x.stamp = n then loweredBy c x else x := by
  rw [mergeBack_eq, withdrawFromBatch, hb, hn]
  simp only [State.withShade_shade, setLabelState_shade, unlabelled_shade, lowerSum_eq]
  rfl

/-! ### The request (R112 to R114) -/

/-- CUT_FAULT whose effect is the state `t`, with the speed authority and the model's own fields left (R112, R114). -/
theorem exec_cutFault_of_serve {s t : State} (hr : Ready s) (tag : Byte) {lane : BitVec 8} {rollId : BitVec 32}
    {outcome : OutcomeCode} {values : List Byte}
    (hf : serveCutFault lane rollId (beginAnswer s) = (beginAnswer t, { outcome := outcome, values := values }))
    (hspeed : t.speed = s.speed) (hmodel : t.model = s.model) :
    exec (.cutFault .rewind tag lane rollId) s = .next (answered .rewind .cutFault tag outcome values t) :=
  exec_of_serve (r := .cutFault lane rollId) rfl hr rfl rfl hf hspeed hmodel

theorem serveCutFault_stale {lane : BitVec 8} {l : Lane} (h : lane.toNat = laneNumber l) {rollId : BitVec 32} {s : State}
    (hv : judgeCutFault l rollId.toNat s = .stale) :
    serveCutFault lane rollId s = (s, { outcome := .stale, values := cutFaultBytes l s }) := by
  simp only [serveCutFault, h, laneOf_laneNumber, hv]

theorem serveCutFault_late {lane : BitVec 8} {l : Lane} (h : lane.toNat = laneNumber l) {rollId : BitVec 32} {s : State}
    (hv : judgeCutFault l rollId.toNat s = .tooLate) :
    serveCutFault lane rollId s = (markCarriesPrior l s, { outcome := .tooLate, values := cutFaultBytes l (markCarriesPrior l s) }) := by
  simp only [serveCutFault, h, laneOf_laneNumber, hv]

theorem serveCutFault_merge {lane : BitVec 8} {l : Lane} (h : lane.toNat = laneNumber l) {rollId : BitVec 32} {c : HistoryEntry}
    {s : State} (hv : judgeCutFault l rollId.toNat s = .merge c) :
    serveCutFault lane rollId s = (mergeBack l c s, okAnswer (cutFaultBytes l (mergeBack l c s))) := by
  simp only [serveCutFault, h, laneOf_laneNumber, hv]

/-- The open roll's repeat count is not touched by the mark (R114). -/
theorem cutFaultBytes_markCarriesPrior (l : Lane) (s : State) : cutFaultBytes l (markCarriesPrior l s) = cutFaultBytes l s := by
  simp only [cutFaultBytes, markCarriesPrior, setLane_get_same]

theorem cutFaultBytes_mergeBack (l : Lane) (c : HistoryEntry) (s : State) : cutFaultBytes l (mergeBack l c s)
    = bytesOf 1 (laneNumber l) ++ bytesOf 2 (min ((s.rolls.lanes.get l).roll.repeats + c.repeats) 65535) := by
  rw [cutFaultBytes, mergeBack_lanes, PerLane.get_set_same]
  rfl

/-- A Cut Fault that merges is the merge as an event, answered (R113). -/
theorem exec_cutFault_merge {s : State} (hr : Ready s) (tag : Byte) {lane : BitVec 8} {l : Lane} (hlane : lane.toNat = laneNumber l)
    {rollId : BitVec 32} {c : HistoryEntry} (hv : judgeCutFault l rollId.toNat s = .merge c) :
    exec (.cutFault .rewind tag lane rollId) s = .next (answered .rewind .cutFault tag .ok
      (bytesOf 1 lane.toNat ++ bytesOf 2 (min ((s.rolls.lanes.get l).roll.repeats + c.repeats) 65535))
      (asEvent (mergeBack l c) (beginAnswer s))) := by
  obtain ⟨hreset, hlisten, -⟩ := hr
  have hevent : asEvent (fun x => (serveCutFault lane rollId x).1) (beginAnswer s) = asEvent (mergeBack l c) (beginAnswer s) := by
    rw [asEvent_eq, asEvent_eq, serveCutFault_merge (s := withEventClosed (beginAnswer s)) hlane hv]
  have hanswer : (serveCutFault lane rollId (beginAnswer s)).2 = okAnswer (cutFaultBytes l (mergeBack l c (beginAnswer s))) := by
    rw [serveCutFault_merge (s := beginAnswer s) hlane hv]
  obtain ⟨hanswering, hgathered⟩ : (asEvent (mergeBack l c) (beginAnswer s)).link.state = .answering
      ∧ (asEvent (mergeBack l c) (beginAnswer s)).link.gathered = [] :=
    (asEvent_raises (K := [.claimChange]) (.of_link (mergeBack_link l c _)) (by simp)).answering
  rw [exec_request_listening (r := .cutFault lane rollId) rfl hreset hlisten, ← respond_eq_answered hanswering hgathered, hlane, ← hevent]
  change Host.Outcome.next (respond .rewind (requestCode .cutFault) tag (serveCutFault lane rollId (beginAnswer s)).2 _) = _
  rw [hanswer, cutFaultBytes_mergeBack]
  rfl

/-- What a removal does to the LABEL claim is seen in the labels and the speed authority alone. -/
theorem LabelClaimFollows.congr {s t t' : State} (h : LabelClaimFollows s t) (hl : t'.labels = t.labels) (hs : t'.speed = t.speed) :
    LabelClaimFollows s t' := by
  unfold LabelClaimFollows
  rw [hl, hs]
  exact h

/-- From `s` to `t` the closed roll `c` was merged back into the open roll of lane `l` (R113, R142, R156). -/
structure MergedBack (l : Lane) (c : HistoryEntry) (s t : State) : Prop where
  lanes : t.rolls.lanes = s.rolls.lanes.set l (mergedLane l c s)
  history : t.rolls.history = s.rolls.history.map fun e => if e.rollId = c.rollId then { e with labelState := .withdrawn } else e
  queued : c.labelState = .queued →
    t.labels.queue = s.labels.queue.filter (fun r => r.rollId != c.rollId) ∧ LabelClaimFollows s t
  notQueued : c.labelState ≠ .queued → t.labels = s.labels ∧ t.speed = s.speed
  noBatch : c.batch = none → t.shade = s.shade
  batch : ∀ b n, c.batch = some b → c.stamp = some n →
    t.shade.batches = s.shade.batches.map fun x => if x.stamp = n then loweredBy c x else x
  others : t.pos = s.pos ∧ t.map = s.map ∧ t.jobs = s.jobs ∧ t.register = s.register ∧ t.emboss = s.emboss ∧ t.pins = s.pins

theorem mergedBack_mergeBack (l : Lane) (c : HistoryEntry) (s : State) : MergedBack l c s (mergeBack l c s) where
  lanes := mergeBack_lanes l c s
  history := mergeBack_history l c s
  queued h := by
    obtain ⟨hqueue, hclaim⟩ := unlabelled_of_queued h l s
    exact ⟨by rw [mergeBack_labels, hqueue], hclaim.congr (mergeBack_labels l c s) (mergeBack_speed l c s)⟩
  notQueued h := by
    rw [mergeBack_labels, mergeBack_speed]
    exact unlabelled_of_not_queued h l s
  noBatch h := mergeBack_shade_of_no_batch h l s
  batch _ _ hb hn := mergeBack_batches hb hn l s
  others := ⟨mergeBack_pos l c s, mergeBack_map l c s, mergeBack_jobs l c s, mergeBack_register l c s, mergeBack_emboss l c s,
    mergeBack_pins l c s⟩

/-- The notices and the mark of an event are nothing that a merge touches. -/
theorem mergedBack_asEvent (l : Lane) (c : HistoryEntry) (s : State) : MergedBack l c s (asEvent (mergeBack l c) (beginAnswer s)) := by
  have h : MergedBack l c s (mergeBack l c (withEventClosed (beginAnswer s))) :=
    { mergedBack_mergeBack l c (withEventClosed (beginAnswer s)) with }
  have hevent := asEvent_reads (p := MergedBack l c s)
    (fun _ _ => propext ⟨fun h => { h with }, fun h => { h with }⟩)
    (fun _ _ => propext ⟨fun h => { h with }, fun h => { h with }⟩) (mergeBack l c) (beginAnswer s)
  rwa [hevent]

/-- Settles O24. -/
theorem cutFaultMergesOrMarks : Obligations.CutFaultMergesOrMarks := by
  intro s tag lane l rollId c hr
  refine ⟨fun hbad => ?_, fun hlane => ⟨fun hstale => ?_, fun hlive hlate => ?_, fun hlive hlate => ?_⟩⟩
  · refine exec_cutFault_of_serve hr tag ?_ rfl rfl
    rw [serveCutFault, laneOf_eq_none hbad]
    rfl
  · refine exec_cutFault_of_serve hr tag ?_ rfl rfl
    rw [serveCutFault_stale hlane (judgeCutFault_stale (s := beginAnswer s) hstale), hlane]
    rfl
  · refine exec_cutFault_of_serve hr tag ?_ rfl rfl
    rw [serveCutFault_late hlane (judgeCutFault_late (s := beginAnswer s) hlive hlate), cutFaultBytes_markCarriesPrior, hlane]
    rfl
  · have hid : c.rollId = rollId.toNat := (findEntry_eq_some hlive.2.1).1
    obtain ⟨hlanes, hhistory, hqueued, hnotQueued, hnoBatch, hbatch, hothers⟩ := mergedBack_asEvent l c s
    have hlane' : (asEvent (mergeBack l c) (beginAnswer s)).rolls.lanes.get l = mergedLane l c s := by
      rw [hlanes, PerLane.get_set_same]
    refine ⟨_, exec_cutFault_merge hr tag hlane (judgeCutFault_merge hlive hlate), ?_, ?_, fun l' hne => ?_, ?_, ?_, hnotQueued, hnoBatch,
      hbatch, hothers⟩
    · rw [hlane']
      exact mergesInto_mergeRoll c _
    · rw [hlane']
      rfl
    · rw [hlanes, PerLane.get_set_other _ _ _ _ hne]
    · rw [hhistory, hid]
    · rwa [hid] at hqueued

end Sys2Proof.Machine

/-! O20: the close of a lane's open roll. -/

namespace Sys2Proof.Machine

open Sys2Proof

/-! ### Grading (R131 to R136) -/

/-- Grading writes the grade, the means, the spread and the batch into the entry, and nothing else (R131 to R136). -/
theorem gradeRoll_entry (e : HistoryEntry) (s : State) : ∃ grade means spread batch stamp,
    (gradeRoll e s).1 = { e with grade := grade, means := means, spread := spread, batch := batch, stamp := stamp } := by
  simp only [gradeRoll]
  split
  · exact ⟨_, _, _, _, _, rfl⟩
  · split
    · exact ⟨_, _, _, _, _, rfl⟩
    · split
      · simp only [matchBatch]
        split
        · exact ⟨_, _, _, _, _, rfl⟩
        · split <;> exact ⟨_, _, _, _, _, rfl⟩
      · exact ⟨_, _, _, _, _, rfl⟩

theorem matchBatch_raises (m : Shade) (e : HistoryEntry) (j : JobRecord) (s : State) :
    RaisesOnly [.batchNew, .offshade] s (matchBatch m e j s).2 := by
  unfold matchBatch
  split
  · exact .of_link rfl
  · split
    · exact (RaisesOnly.raiseNotice (k := .batchNew) (by simp) s).trans (.of_link rfl)
    · exact .raiseNotice (by simp) s

/-- Grading raises BATCH_NEW and OFFSHADE at most (R134, R135). -/
theorem gradeRoll_raises (e : HistoryEntry) (s : State) : RaisesOnly [.batchNew, .offshade] s (gradeRoll e s).2 := by
  simp only [gradeRoll]
  split
  · exact .refl _ s
  · split
    · exact .refl _ s
    · split
      · exact matchBatch_raises _ _ _ s
      · exact .refl _ s

/-! ### The close (R105) -/

/-- A roll joins the history, and the oldest is dropped when it is full (R105, R108). -/
theorem joinHistory_drop (e : HistoryEntry) (h : List HistoryEntry) :
    joinHistory e h = h.drop (if 64 ≤ h.length then 1 else 0) ++ [e] := by
  have hmax : Config.historyMax = 64 := rfl
  rw [joinHistory, hmax]
  split <;> rfl

/-- A length in millimetres is the counts over 20, rounded half up (R108). -/
theorem millimetres_eq (n : Nat) : millimetres n = (n + 10) / 20 := by
  unfold millimetres roundDiv
  omega

/-- The grading of a lane's open roll as it closes: its history entry and the state that the batch match leaves (R105). -/
def gradedAtClose (l : Lane) (kind : RollKind) (reason : CloseReason) (s : State) : HistoryEntry × State :=
  gradeRoll (entryOf l kind reason (s.rolls.lanes.get l).roll) s

/-- The history entry of a lane's open roll as it closes, before its label (R105, R147). -/
def closedEntry (l : Lane) (kind : RollKind) (reason : CloseReason) (s : State) : HistoryEntry :=
  let g := gradedAtClose l kind reason s
  { g.1 with pattern := ((jobOf g.1.job g.2).map (·.pattern)).getD [] }

/-- The queueing of the closed roll's label: the label state, and the state with the label queued or missed (R148). -/
def labelledAtClose (l : Lane) (kind : RollKind) (reason : CloseReason) (s : State) : LabelState × State :=
  queueLabel (labelOf (closedEntry l kind reason s) .first) (gradedAtClose l kind reason s).2

/-- The history entry of the closed roll, with its label state (R108). -/
def joinedEntry (l : Lane) (kind : RollKind) (reason : CloseReason) (s : State) : HistoryEntry :=
  { closedEntry l kind reason s with labelState := (labelledAtClose l kind reason s).1 }

/-- A lane whose open roll has closed (R105). -/
def emptiedLane (l : Lane) (s : State) : LaneRecord :=
  { s.rolls.lanes.get l with roll := OpenRoll.empty (s.rolls.knifeJob.map (·.number)), lastClosed := (s.rolls.lanes.get l).roll.rollId }

/-- The state of a close before ROLL_CLOSED: the roll is in the history, and the lane is emptied (R105). -/
def closeJoined (l : Lane) (kind : RollKind) (reason : CloseReason) (s : State) : State :=
  setLane l (emptiedLane l s) ((claimAfterClose (labelledAtClose l kind reason s).2).withRolls
    { s.rolls with history := joinHistory (joinedEntry l kind reason s) s.rolls.history })

section

variable (l : Lane) (kind : RollKind) (reason : CloseReason) (s : State)

/-- A close is the grade, the label, the LABEL claim, the history, the emptied lane and ROLL_CLOSED, in this order (R105). -/
theorem closeRoll_eq : closeRoll l kind reason s = raiseNotice .rollClosed (closeJoined l kind reason s) := by
  simp only [closeRoll, State.withRolls_rolls, claimAfterClose_rolls, queueLabel_rolls, gradeRoll_rolls]
  rfl

theorem closedEntry_eq : ∃ grade means spread batch stamp pattern,
    closedEntry l kind reason s = { entryOf l kind reason (s.rolls.lanes.get l).roll with
      grade := grade, means := means, spread := spread, batch := batch, stamp := stamp, pattern := pattern } := by
  obtain ⟨_, _, _, _, _, h⟩ := gradeRoll_entry (entryOf l kind reason (s.rolls.lanes.get l).roll) s
  exact ⟨_, _, _, _, _, _, by rw [closedEntry, gradedAtClose, h]⟩

theorem joinedEntry_holds : EntryHolds (s.rolls.lanes.get l).roll (joinedEntry l kind reason s)
    ∧ (joinedEntry l kind reason s).lane = l ∧ (joinedEntry l kind reason s).kind = kind
    ∧ (joinedEntry l kind reason s).reason = reason := by
  obtain ⟨_, _, _, _, _, _, h⟩ := closedEntry_eq l kind reason s
  rw [joinedEntry, h]
  exact ⟨⟨rfl, rfl, rfl, rfl, rfl, millimetres_eq _, rfl, rfl, rfl, rfl, rfl, rfl, rfl, rfl, rfl⟩, rfl, rfl, rfl⟩

/-- The label of a roll has no place for its label state. -/
theorem labelOf_joinedEntry : labelOf (joinedEntry l kind reason s) .first = labelOf (closedEntry l kind reason s) .first := rfl

theorem closeJoined_labels :
    (closeJoined l kind reason s).labels = (claimAfterClose (labelledAtClose l kind reason s).2).labels := by
  rw [closeJoined, setLane_labels, State.withRolls_labels]

theorem closeJoined_speed :
    (closeJoined l kind reason s).speed = (claimAfterClose (labelledAtClose l kind reason s).2).speed := by
  rw [closeJoined, setLane_speed, State.withRolls_speed]

theorem closeJoined_queue : (closeJoined l kind reason s).labels.queue = (labelledAtClose l kind reason s).2.labels.queue := by
  rw [closeJoined_labels, claimAfterClose_queue]

theorem closeJoined_link : (closeJoined l kind reason s).link = (labelledAtClose l kind reason s).2.link := by
  rw [closeJoined, setLane_link, State.withRolls_link, claimAfterClose_link]

theorem closeJoined_history :
    (closeJoined l kind reason s).rolls.history = joinHistory (joinedEntry l kind reason s) s.rolls.history := by
  rw [closeJoined, setLane, State.withRolls_rolls, State.withRolls_rolls]

theorem closeJoined_get_same : (closeJoined l kind reason s).rolls.lanes.get l = emptiedLane l s := setLane_get_same _ _ _

theorem closeJoined_get_other {x : Lane} (h : x ≠ l) : (closeJoined l kind reason s).rolls.lanes.get x = s.rolls.lanes.get x := by
  rw [closeJoined, setLane_get_other h, State.withRolls_rolls]

theorem closeJoined_raises :
    RaisesOnly [.batchNew, .offshade, .labelReady, .labelOverrun] s (closeJoined l kind reason s)
      ∧ RaisedTimes (if s.labels.queue.length < 16 then 0 else 1) .labelOverrun s (closeJoined l kind reason s)
      ∧ RaisedTimes (if s.labels.queue = [] then 1 else 0) .labelReady s (closeJoined l kind reason s) := by
  have hgrade : RaisesOnly [.batchNew, .offshade] s (gradedAtClose l kind reason s).2 := gradeRoll_raises _ s
  obtain ⟨hlabel, hover, hready⟩ := queueLabel_raises (labelOf (closedEntry l kind reason s) .first) (gradedAtClose l kind reason s).2
  have hlink := closeJoined_link l kind reason s
  have hlabels : (gradedAtClose l kind reason s).2.labels = s.labels := gradeRoll_labels _ s
  rw [hlabels] at hover hready
  refine ⟨(hgrade.mono (by simp)).trans ((hlabel.mono (by simp)).trans (.of_link hlink)), ?_, ?_⟩
  · simpa only [Nat.zero_add] using (hgrade.times_zero (by simp)).trans hgrade.masks (hover.of_link hlink)
  · simpa only [Nat.zero_add] using (hgrade.times_zero (by simp)).trans hgrade.masks (hready.of_link hlink)

/-- The label of the closed roll, and the queue after the close (R148). -/
theorem closeJoined_label :
    (s.labels.queue.length < 16 → (joinedEntry l kind reason s).labelState = .queued
        ∧ (closeJoined l kind reason s).labels.queue = s.labels.queue ++ [labelOf (joinedEntry l kind reason s) .first])
      ∧ (16 ≤ s.labels.queue.length → (joinedEntry l kind reason s).labelState = .missed
        ∧ (closeJoined l kind reason s).labels.queue = s.labels.queue) := by
  have hqueue := queueLabel_queue (labelOf (closedEntry l kind reason s) .first) (gradedAtClose l kind reason s).2
  have hlabels : (gradedAtClose l kind reason s).2.labels = s.labels := gradeRoll_labels _ s
  rw [hlabels] at hqueue
  rw [closeJoined_queue, labelOf_joinedEntry]
  exact hqueue

theorem closeJoined_depth : (closeJoined l kind reason s).labels.queue.length
    = if s.labels.queue.length < 16 then s.labels.queue.length + 1 else s.labels.queue.length := by
  obtain ⟨hroom, hfull⟩ := closeJoined_label l kind reason s
  split
  · next hlen => rw [(hroom hlen).2, List.length_append, List.length_singleton]
  · next hlen => rw [(hfull (Nat.not_lt.mp hlen)).2]

/-- The LABEL claim after the close follows the depth of the queue then (R150). -/
theorem closeJoined_claim :
    (14 ≤ (closeJoined l kind reason s).labels.queue.length → s.labels.claimHeld = false →
        LabelRaised s (closeJoined l kind reason s))
      ∧ ((closeJoined l kind reason s).labels.queue.length < 14 ∨ s.labels.claimHeld = true →
        (closeJoined l kind reason s).labels.claimHeld = s.labels.claimHeld ∧ (closeJoined l kind reason s).speed = s.speed) := by
  have hheld : (labelledAtClose l kind reason s).2.labels.claimHeld = s.labels.claimHeld :=
    (queueLabel_claimHeld _ _).trans (congrArg LabelUnit.claimHeld (gradeRoll_labels _ s))
  have hspeed : (labelledAtClose l kind reason s).2.speed = s.speed := (queueLabel_speed _ _).trans (gradeRoll_speed _ s)
  rw [closeJoined_queue, LabelRaised, closeJoined_labels, closeJoined_speed]
  refine ⟨fun hdepth hfree => ?_, fun h => ?_⟩
  · obtain ⟨hclaim, hchange⟩ := claimAfterClose_claimed hdepth (hheld.trans hfree)
    rw [hchange, hspeed]
    exact ⟨hclaim, changeSlot_slots _ _ _, changeSlot_runs _ _ _, changeSlot_settings _ _ _⟩
  · rw [claimAfterClose_unclaimed (h.imp_right hheld.trans)]
    exact ⟨hheld, hspeed⟩

end

theorem RaisedTimes.raisedOnce {k : NoticeKind} {s t : State} (h : RaisedTimes 1 k s t) : RaisedOnce k s t :=
  fun m => by simpa using h m

theorem RaisedTimes.notRaised {k : NoticeKind} {s t : State} (h : RaisedTimes 0 k s t) : NotRaised k s t :=
  fun m => by simpa using h m

/-- ROLL_CLOSED is the last that a close raises, and no other kind's count follows it (R105). -/
theorem closeRoll_raises (l : Lane) (kind : RollKind) (reason : CloseReason) (s : State) :
    RaisedOnce .rollClosed s (closeRoll l kind reason s)
      ∧ RaisedTimes (if s.labels.queue.length < 16 then 0 else 1) .labelOverrun s (closeRoll l kind reason s)
      ∧ RaisedTimes (if s.labels.queue = [] then 1 else 0) .labelReady s (closeRoll l kind reason s) := by
  obtain ⟨hraises, hover, hready⟩ := closeJoined_raises l kind reason s
  have hlast {k : NoticeKind} (hk : k ≠ .rollClosed) : RaisedTimes 0 k (closeJoined l kind reason s) (closeRoll l kind reason s) := by
    rw [closeRoll_eq]
    exact .zero fun m => pendingCount_raiseNotice_other hk m _
  refine ⟨?_, hover.trans hraises.masks (hlast (by decide)), hready.trans hraises.masks (hlast (by decide))⟩
  rw [closeRoll_eq]
  exact (RaisedOnce.of_raise _ _).after (hraises.others _ (by simp)) hraises.masks

/-- Settles O20. -/
theorem closeRollEntersHistory : Obligations.CloseRollEntersHistory := by
  intro s l kind reason
  obtain ⟨hholds, hlane, hkind, hreason⟩ := joinedEntry_holds l kind reason s
  obtain ⟨hclosed, hover, hready⟩ := closeRoll_raises l kind reason s
  obtain ⟨hroom, hfull⟩ := closeJoined_label l kind reason s
  obtain ⟨hclaimed, hunclaimed⟩ := closeJoined_claim l kind reason s
  have hlabels : (closeRoll l kind reason s).labels = (closeJoined l kind reason s).labels := by rw [closeRoll_eq, raiseNotice_labels]
  have hspeed : (closeRoll l kind reason s).speed = (closeJoined l kind reason s).speed := by rw [closeRoll_eq, raiseNotice_speed]
  have hrolls : (closeRoll l kind reason s).rolls = (closeJoined l kind reason s).rolls := by rw [closeRoll_eq, raiseNotice_rolls]
  refine ⟨joinedEntry l kind reason s, ?history, hholds, hlane, hkind, hreason, ?lastClosed, ?emptied, ?otherLanes, hclosed,
    ?queued, ?missed, ?ready, ?notReady, ?claimed, ?unclaimed⟩
  case history =>
    rw [hrolls, closeJoined_history]
    exact joinHistory_drop _ _
  case lastClosed => rw [hrolls, closeJoined_get_same]; rfl
  case emptied => rw [hrolls, closeJoined_get_same]; rfl
  case otherLanes =>
    intro l' hne
    rw [hrolls, closeJoined_get_other l kind reason s hne]
  case queued =>
    intro hlen
    obtain ⟨hstate, hqueue⟩ := hroom hlen
    rw [if_pos hlen] at hover
    exact ⟨hstate, hover.notRaised, _, by rw [hlabels, hqueue], rfl, rfl, hlane, hkind, hreason, rfl, rfl, rfl, rfl, rfl, rfl, rfl, rfl, rfl⟩
  case missed =>
    intro hlen
    obtain ⟨hstate, hqueue⟩ := hfull hlen
    rw [if_neg (Nat.not_lt.mpr hlen)] at hover
    exact ⟨hstate, by rw [hlabels, hqueue], hover.raisedOnce⟩
  case ready =>
    intro hempty
    rw [if_pos hempty] at hready
    exact hready.raisedOnce
  case notReady =>
    intro hne
    rw [if_neg hne] at hready
    exact hready.notRaised
  case claimed =>
    intro hdeep hfree
    rw [LabelRaised, hlabels, hspeed]
    refine hclaimed ?_ hfree
    rw [closeJoined_depth]
    split <;> omega
  case unclaimed =>
    intro h
    rw [hlabels, hspeed]
    refine hunclaimed (h.imp_left fun hshallow => ?_)
    rw [closeJoined_depth]
    split <;> omega

end Sys2Proof.Machine

/-! O16: the step of the sampling generator. -/

namespace Sys2Proof.Machine

open Sys2Proof

theorem stepGenerator_getLsbD_zero (g : BitVec 10) : (stepGenerator g).getLsbD 0 = (g.getLsbD 9 != g.getLsbD 6) := by
  rw [stepGenerator]
  cases g.getLsbD 9 <;> cases g.getLsbD 6 <;> simp

theorem stepGenerator_getLsbD_succ (g : BitVec 10) {i : Nat} (hi : i < 9) : (stepGenerator g).getLsbD (i + 1) = g.getLsbD i := by
  have hhigh : (1 : BitVec 10).getLsbD (i + 1) = false := by simp
  rw [stepGenerator, BitVec.getLsbD_or, BitVec.getLsbD_shiftLeft]
  split
  · rw [hhigh]; simp; omega
  · simp; omega

theorem stepGenerator_toNat (g : BitVec 10) :
    (stepGenerator g).toNat = 2 * g.toNat % 1024 + (if g.getLsbD 9 = g.getLsbD 6 then 0 else 1) := by
  have hshift : (g <<< 1).toNat = 2 ^ 1 * (g.toNat % 512) := by
    rw [BitVec.toNat_shiftLeft, Nat.shiftLeft_eq]
    omega
  rw [stepGenerator, BitVec.toNat_or, hshift]
  by_cases h : g.getLsbD 9 = g.getLsbD 6
  · rw [if_neg (by simpa using h), if_pos h]
    simp
    omega
  · rw [if_pos (by simpa using h), if_neg h, show (1 : BitVec 10).toNat = 1 from rfl, ← Nat.two_pow_add_eq_or_of_lt (by omega)]
    omega

/-- A step forgets nothing: bits 0 to 8 stand one place higher, and bit 9 is the new bit 0 exclusive-or bit 6 (R120). -/
theorem stepGenerator_injective : Function.Injective stepGenerator := by
  intro g h heq
  have hlow (i : Nat) (hi : i < 9) : g.getLsbD i = h.getLsbD i := by
    rw [← stepGenerator_getLsbD_succ g hi, heq, stepGenerator_getLsbD_succ h hi]
  have hhigh : g.getLsbD 9 = h.getLsbD 9 := by
    have hzero : (g.getLsbD 9 != g.getLsbD 6) = (h.getLsbD 9 != h.getLsbD 6) := by
      rw [← stepGenerator_getLsbD_zero, heq, stepGenerator_getLsbD_zero]
    rw [hlow 6 (by omega)] at hzero
    exact Bool.xor_left_inj.mp hzero
  refine BitVec.eq_of_getLsbD_eq fun i hi => ?_
  rcases Nat.lt_succ_iff_lt_or_eq.mp hi with hi | rfl
  · exact hlow i hi
  · exact hhigh

/-- Settles O16. -/
theorem generatorStepsOnce : Obligations.GeneratorStepsOnce :=
  ⟨stepGenerator_toNat, fun _ => stepGenerator_ne_zero, fun _ _ h => stepGenerator_injective h⟩

end Sys2Proof.Machine

/-! O21: the checks of the grade, the means and the spread, and isqrt. -/

namespace Sys2Proof.Machine

open Sys2Proof

/-! ### The integer square root (conventions, isqrt) -/

/-- The bitwise search keeps the root between `r` and `r + 2 ^ k`, and ends with the two one apart. -/
theorem isqrtFrom_bounds (n k r : Nat) (hlow : r * r ≤ n) (hhigh : n < (r + 2 ^ k) * (r + 2 ^ k)) :
    isqrtFrom n k r * isqrtFrom n k r ≤ n ∧ n < (isqrtFrom n k r + 1) * (isqrtFrom n k r + 1) := by
  induction k generalizing r with
  | zero => exact ⟨hlow, hhigh⟩
  | succ k ih =>
    rw [isqrtFrom]
    split
    case isTrue hbit => exact ih _ hbit (by rwa [Nat.add_assoc, ← Nat.two_mul, ← Nat.pow_succ'])
    case isFalse hbit => exact ih _ hlow (Nat.lt_of_not_le hbit)

theorem isqrt_bounds (n : Nat) : isqrt n * isqrt n ≤ n ∧ n < (isqrt n + 1) * (isqrt n + 1) := by
  refine isqrtFrom_bounds n _ 0 (Nat.zero_le n) ?_
  calc n < 2 ^ (n.log2 + 1) := Nat.lt_log2_self
    _ ≤ 2 ^ (n.log2 / 2 + 1 + (n.log2 / 2 + 1)) := Nat.pow_le_pow_right (by omega) (by omega)
    _ = (0 + 2 ^ (n.log2 / 2 + 1)) * (0 + 2 ^ (n.log2 / 2 + 1)) := by rw [Nat.zero_add, Nat.pow_add]

/-! ### Rounding half away from zero (conventions, Rounding) -/

theorem roundDiv_natCast (n d : Nat) : roundDiv n d = ((2 * n + d) / (2 * d) : Nat) := by
  rw [roundDiv, if_pos (by omega)]
  push_cast
  rfl

theorem roundDiv_neg_natCast (n : Nat) {d : Nat} (hd : 0 < d) : roundDiv (-n) d = -((2 * n + d) / (2 * d) : Nat) := by
  rcases Nat.eq_zero_or_pos n with rfl | hn
  · have hzero : (2 * 0 + d) / (2 * d) = 0 := Nat.div_eq_of_lt (by omega)
    rw [Nat.cast_zero, neg_zero, ← Nat.cast_zero, roundDiv_natCast, hzero]
    rfl
  · rw [roundDiv, if_neg (by omega), mul_neg, neg_neg]
    push_cast
    rfl

theorem roundDiv_natAbs (x : Int) {d : Nat} (hd : 0 < d) : (roundDiv x d).natAbs = (2 * x.natAbs + d) / (2 * d) := by
  obtain ⟨n, rfl | rfl⟩ := x.eq_nat_or_neg
  · rw [roundDiv_natCast, Int.natAbs_natCast, Int.natAbs_natCast]
  · rw [roundDiv_neg_natCast n hd, Int.natAbs_neg, Int.natAbs_neg, Int.natAbs_natCast, Int.natAbs_natCast]

theorem roundDiv_mul_nonneg (x : Int) (d : Nat) : 0 ≤ roundDiv x d * x := by
  rw [roundDiv]
  split
  case isTrue hx => exact Int.mul_nonneg (Int.ediv_nonneg (by omega) (by omega)) hx
  case isFalse hx =>
    rw [Int.neg_mul, ← Int.mul_neg]
    exact Int.mul_nonneg (Int.ediv_nonneg (by omega) (by omega)) (by omega)

/-! ### The means and the spread (R131) -/

/-- A closed roll's entry with its means and its spread, which every roll has whatever its grade (R131). -/
def measured (e : HistoryEntry) : HistoryEntry :=
  { e with means := rollMeans e.samples e.sums, spread := rollSpread e.minimum e.maximum }

theorem matchBatch_keeps_measures (m : Shade) (e : HistoryEntry) (j : JobRecord) (s : State) :
    (matchBatch m e j s).1.means = e.means ∧ (matchBatch m e j s).1.spread = e.spread := by
  unfold matchBatch
  split
  · exact ⟨rfl, rfl⟩
  · split <;> exact ⟨rfl, rfl⟩

theorem gradeRoll_measures (e : HistoryEntry) (s : State) :
    (gradeRoll e s).1.means = rollMeans e.samples e.sums ∧ (gradeRoll e s).1.spread = rollSpread e.minimum e.maximum := by
  simp only [gradeRoll]
  split
  · exact ⟨rfl, rfl⟩
  · split
    · exact ⟨rfl, rfl⟩
    · split
      · exact matchBatch_keeps_measures _ (measured e) _ s
      · exact ⟨rfl, rfl⟩

theorem square_eq_pow (x : Int) : (square x : Int) = x ^ 2 := by
  rw [square, Nat.cast_mul, Int.natCast_natAbs, abs_mul_abs_self, pow_two]

/-- The spread is the root, rounded down, of the sum of the squares of the ranges (R131). -/
theorem rollSpread_bounds (lo hi : Shade) :
    let sum : Int := (hi.lightness - lo.lightness) ^ 2 + (hi.redGreen - lo.redGreen) ^ 2 + (hi.yellowBlue - lo.yellowBlue) ^ 2
    ∃ d : Nat, rollSpread (some lo) (some hi) = some d ∧ (d : Int) ^ 2 ≤ sum ∧ sum < ((d : Int) + 1) ^ 2 := by
  intro sum
  have hsum : sum = ((Shade.zipWith (· - ·) hi lo).sumSquares : Int) := by
    simp only [Shade.sumSquares, Nat.cast_add, square_eq_pow]
    rfl
  obtain ⟨hlow, hhigh⟩ := isqrt_bounds (Shade.zipWith (· - ·) hi lo).sumSquares
  refine ⟨_, rfl, ?_, ?_⟩
  · rw [hsum, pow_two]
    exact_mod_cast hlow
  · rw [hsum, pow_two]
    exact_mod_cast hhigh

/-! ### The checks (R132) -/

theorem rejectKind_iff (k : RollKind) : rejectKind k = true ↔ k = .stub ∨ k = .scrap ∨ k = .merged := by
  cases k <;> decide

/-- Checks 1 to 4 give REJECT and check 5 UNGRADED, in that order (R132). -/
theorem gradeChecks_eq (e : HistoryEntry) (j : JobRecord) :
    gradeChecks e j =
      if e.kind = .stub ∨ e.kind = .scrap ∨ e.kind = .merged ∨ e.carriesPrior = true ∨ j.defectLimit < e.defects ∨ 0 < e.plain then
        some .reject
      else if e.samples < j.minSamples then some .ungraded else none := by
  simp only [gradeChecks, rejectKind_iff, ite_or]

theorem gradeChecks_measured (e : HistoryEntry) (j : JobRecord) : gradeChecks (measured e) j = gradeChecks e j := rfl

theorem gradeRoll_of_check {e : HistoryEntry} {j : JobRecord} {s : State} {g : Grade} (hj : jobOf e.job s = some j)
    (hg : gradeChecks e j = some g) : gradeRoll e s = ({ measured e with grade := g }, s) := by
  rw [← gradeChecks_measured] at hg
  simp only [gradeRoll, hj, ← measured.eq_1, hg]
  rfl

theorem gradeRoll_of_match {e : HistoryEntry} {j : JobRecord} {s : State} {m : Shade} (hj : jobOf e.job s = some j)
    (hg : gradeChecks e j = none) (hm : rollMeans e.samples e.sums = some m) : gradeRoll e s = matchBatch m (measured e) j s := by
  rw [← gradeChecks_measured] at hg
  simp only [gradeRoll, hj, ← measured.eq_1, hg]
  simp only [hm]

/-- Settles O21. -/
theorem gradeChecksInOrder : Obligations.GradeChecksInOrder := by
  refine ⟨isqrt_bounds, fun s e j hj => ?_⟩
  obtain ⟨hmeans, hspread⟩ := gradeRoll_measures e s
  refine ⟨fun hrejected => ?reject, fun hpassed hfew => ?ungraded, fun hnone => ?noMeans, fun hsome => ?means, fun hnone => ?noSpread,
    fun lo hi hlo hhi => ?spread⟩
  case reject =>
    rw [gradeRoll_of_check hj (by rw [gradeChecks_eq, if_pos hrejected])]
    exact ⟨rfl, rfl, rfl⟩
  case ungraded =>
    rw [gradeRoll_of_check hj (by rw [gradeChecks_eq, if_neg hpassed, if_pos hfew])]
    exact ⟨rfl, rfl, rfl⟩
  case noMeans => rw [hmeans, rollMeans, if_pos hnone]
  case means =>
    rw [hmeans, rollMeans, if_neg (Nat.ne_of_gt hsome)]
    exact ⟨_, rfl, roundDiv_natAbs _ hsome, roundDiv_mul_nonneg _ _, roundDiv_natAbs _ hsome, roundDiv_mul_nonneg _ _,
      roundDiv_natAbs _ hsome, roundDiv_mul_nonneg _ _⟩
  case noSpread => rw [hspread, hnone]; rfl
  case spread =>
    rw [hspread, hlo, hhi]
    exact rollSpread_bounds lo hi

end Sys2Proof.Machine

/-! O22: the batch match. -/

namespace Sys2Proof.Machine

open Sys2Proof

/-! ### The nearest candidate (R133) -/

/-- A batch stands no later than another in the order of R133: by distance, and by number among equals. -/
def NoLater (m : Shade) (b c : BatchEntry) : Prop :=
  batchDistance m b < batchDistance m c ∨ (batchDistance m b = batchDistance m c ∧ b.number ≤ c.number)

theorem NoLater.refl (m : Shade) (b : BatchEntry) : NoLater m b b := .inr ⟨rfl, Nat.le_refl _⟩

theorem NoLater.trans {m : Shade} {b c d : BatchEntry} (h : NoLater m b c) (h' : NoLater m c d) : NoLater m b d := by
  unfold NoLater at *
  omega

theorem noLater_of_closerBatch {m : Shade} {b c : BatchEntry} (h : closerBatch m b c = true) : NoLater m b c := by
  simp only [closerBatch, Bool.or_eq_true, Bool.and_eq_true, decide_eq_true_eq] at h
  unfold NoLater
  omega

theorem noLater_of_not_closerBatch {m : Shade} {b c : BatchEntry} (h : ¬closerBatch m b c = true) : NoLater m c b := by
  simp only [closerBatch, Bool.or_eq_true, Bool.and_eq_true, decide_eq_true_eq] at h
  unfold NoLater
  omega

/-- The better of the best batch so far and the next one (R133). -/
def nearer (m : Shade) (best : Option BatchEntry) (b : BatchEntry) : Option BatchEntry :=
  match best with
  | none => some b
  | some c => if closerBatch m b c then some b else some c

theorem bestCandidate_eq (m : Shade) (j : JobRecord) (batches : List BatchEntry) :
    bestCandidate m j batches = (batches.filter (isCandidate m j)).foldl (nearer m) none := rfl

theorem nearer_some (m : Shade) (c b : BatchEntry) :
    ∃ d, nearer m (some c) b = some d ∧ (d = c ∨ d = b) ∧ NoLater m d c ∧ NoLater m d b := by
  rw [nearer]
  split
  case isTrue h => exact ⟨b, rfl, .inr rfl, noLater_of_closerBatch h, .refl m b⟩
  case isFalse h => exact ⟨c, rfl, .inl rfl, .refl m c, noLater_of_not_closerBatch h⟩

theorem foldl_nearer_some (m : Shade) (l : List BatchEntry) (c : BatchEntry) :
    ∃ b ∈ c :: l, l.foldl (nearer m) (some c) = some b ∧ ∀ x ∈ c :: l, NoLater m b x := by
  induction l generalizing c with
  | nil => exact ⟨c, by simp, rfl, by simpa using NoLater.refl m c⟩
  | cons x l ih =>
    obtain ⟨d, hd, hmem, hdc, hdx⟩ := nearer_some m c x
    obtain ⟨b, hb, hfold, hbest⟩ := ih d
    have hbd := hbest d (by simp)
    refine ⟨b, ?_, by rw [List.foldl_cons, hd, hfold], ?_⟩
    · rcases hmem with rfl | rfl <;> simp only [List.mem_cons] at hb ⊢ <;> tauto
    · simp only [List.forall_mem_cons] at hbest ⊢
      exact ⟨hbd.trans hdc, hbd.trans hdx, hbest.2⟩

theorem bestCandidate_of_mem {m : Shade} {j : JobRecord} {batches : List BatchEntry}
    (h : ∃ b ∈ batches, isCandidate m j b = true) :
    ∃ b ∈ batches, isCandidate m j b = true ∧ bestCandidate m j batches = some b
      ∧ ∀ c ∈ batches, isCandidate m j c = true → NoLater m b c := by
  obtain ⟨b0, hb0⟩ := h
  have hmem := List.mem_filter.mpr hb0
  rw [bestCandidate_eq]
  cases hl : batches.filter (isCandidate m j) with
  | nil => rw [hl] at hmem; exact absurd hmem List.not_mem_nil
  | cons c l =>
    obtain ⟨b, hb, hfold, hbest⟩ := foldl_nearer_some m l c
    rw [← hl] at hb hbest
    obtain ⟨hbatch, hcandidate⟩ := List.mem_filter.mp hb
    exact ⟨b, hbatch, hcandidate, hfold, fun x hx hxc => hbest x (List.mem_filter.mpr ⟨hx, hxc⟩)⟩

theorem bestCandidate_none {m : Shade} {j : JobRecord} {batches : List BatchEntry}
    (h : ∀ b ∈ batches, isCandidate m j b = false) : bestCandidate m j batches = none := by
  rw [bestCandidate_eq, List.filter_eq_nil_iff.mpr fun b hb => by simp [h b hb]]
  rfl

/-! ### The next batch number (R134) -/

/-- A number that an entry of the table holds (R134). -/
def Held (batches : List BatchEntry) (n : Nat) : Prop := ∃ b ∈ batches, b.number = n

theorem any_number_iff (batches : List BatchEntry) (n : Nat) : (batches.any fun b => b.number == n) = true ↔ Held batches n := by
  simp only [List.any_eq_true, beq_iff_eq, Held]

/-- A run of held numbers is no longer than the table. -/
theorem sub_le_length_of_held {batches : List BatchEntry} {v n : Nat} (h : ∀ x, v ≤ x → x < n → Held batches x) :
    n - v ≤ batches.length := by
  have hsub : Finset.Ico v n ⊆ (batches.map (·.number)).toFinset := by
    intro x hx
    obtain ⟨hv, hn⟩ := Finset.mem_Ico.mp hx
    simpa [Held] using h x hv hn
  calc n - v = (Finset.Ico v n).card := (Nat.card_Ico v n).symm
    _ ≤ (batches.map (·.number)).toFinset.card := Finset.card_le_card hsub
    _ ≤ (batches.map (·.number)).length := List.toFinset_card_le _
    _ = batches.length := List.length_map _

/-- The next batch number is the first from the counter that no entry holds, when it is in the job's range (R134). -/
theorem freeBatchNumber_eq_some_iff {batches : List BatchEntry} {v base n : Nat} :
    freeBatchNumber v base batches = some n ↔
      v ≤ n ∧ n ≤ base + 999 ∧ ¬Held batches n ∧ ∀ x, v ≤ x → x < n → Held batches x := by
  have hfree (x : Nat) : (!(batches.any fun b => b.number == x)) = true ↔ ¬Held batches x := by
    rw [← any_number_iff, Bool.not_eq_true', Bool.not_eq_true]
  simp only [freeBatchNumber, Option.filter_eq_some_iff, List.find?_map, Option.map_eq_some_iff, List.find?_range_eq_some,
    Function.comp_apply, Bool.not_not, hfree, any_number_iff, List.mem_range, decide_eq_true_eq]
  constructor
  · rintro ⟨⟨i, ⟨hnot, -, hheld⟩, rfl⟩, hrange⟩
    refine ⟨Nat.le_add_right v i, hrange, hnot, fun x hv hx => ?_⟩
    obtain ⟨k, rfl⟩ := Nat.exists_eq_add_of_le hv
    exact hheld k (by omega)
  · rintro ⟨hv, hrange, hnot, hheld⟩
    obtain ⟨i, rfl⟩ := Nat.exists_eq_add_of_le hv
    have hlength := sub_le_length_of_held hheld
    exact ⟨⟨i, ⟨hnot, by omega, fun k hk => hheld _ (Nat.le_add_right v k) (by omega)⟩, rfl⟩, hrange⟩

theorem freeBatchNumber_eq_none {batches : List BatchEntry} {v base : Nat} (h : ∀ x, v ≤ x → x ≤ base + 999 → Held batches x) :
    freeBatchNumber v base batches = none := by
  refine Option.eq_none_iff_forall_ne_some.mpr fun n hn => ?_
  obtain ⟨hv, hrange, hnot, -⟩ := freeBatchNumber_eq_some_iff.mp hn
  exact hnot (h n hv hrange)

/-! ### The batch match (R133 to R136) -/

section

variable {m : Shade} {e : HistoryEntry} {j : JobRecord} {s : State}

theorem matchBatch_of_candidate {b : BatchEntry} (h : bestCandidate m j s.shade.batches = some b) :
    matchBatch m e j s = joinBatch b e j s := by
  simp only [matchBatch, h]

/-- A roll that opens a batch joins it (R134). -/
theorem matchBatch_of_free (h : bestCandidate m j s.shade.batches = none) (hroom : s.shade.batches.length < 24) {v n : Nat}
    (hv : batchCounter j.number s = some v) (hn : freeBatchNumber v j.batchBase s.shade.batches = some n) :
    matchBatch m e j s = joinBatch (openBatch m j n s).1 e j (openBatch m j n s).2 := by
  have hmax : s.shade.batches.length < Config.batchMax := hroom
  simp only [matchBatch, h, if_pos hmax, hv, Option.bind_some, hn]

theorem matchBatch_of_no_number (h : bestCandidate m j s.shade.batches = none)
    (hnone : 24 ≤ s.shade.batches.length
      ∨ ∃ v, batchCounter j.number s = some v ∧ freeBatchNumber v j.batchBase s.shade.batches = none) :
    matchBatch m e j s = ({ e with grade := .hold }, raiseNotice .offshade s) := by
  simp only [matchBatch, h]
  rcases Nat.lt_or_ge s.shade.batches.length Config.batchMax with hroom | hfull
  · obtain hfull | ⟨v, hv, hn⟩ := hnone
    · exact absurd hroom (Nat.not_lt.mpr hfull)
    · simp only [if_pos hroom, hv, Option.bind_some, hn]
  · simp only [if_neg (Nat.not_lt.mpr hfull), Option.bind_none]

end

/-! ### A batch opened and joined (R134, R136, R138) -/

theorem withBatchCounter_nextStamp (tag v : Nat) (s : State) : (withBatchCounter tag v s).nextStamp = s.shade.nextStamp := by
  unfold withBatchCounter; split <;> rfl

theorem withBatchCounter_of_head {tag : Nat} {s : State} (h : isHeadJob tag s = true) (v : Nat) :
    withBatchCounter tag v s = { s.shade with headCounter := some v } := by
  rw [withBatchCounter, if_pos h]

theorem withBatchCounter_of_not_head {tag : Nat} {s : State} (h : ¬isHeadJob tag s = true) (v : Nat) :
    withBatchCounter tag v s = { s.shade with tailCounter := some v } := by
  rw [withBatchCounter, if_neg h]

theorem isHeadJob_iff (tag : Nat) (s : State) : isHeadJob tag s = true ↔ ∃ h, s.jobs.head = some h ∧ h.record.number = tag := by
  simp only [isHeadJob, beq_iff_eq, Option.map_eq_some_iff]

/-- The state after a roll has opened the batch `n` and joined it (R134, R136). -/
def openedAndJoined (m : Shade) (e : HistoryEntry) (j : JobRecord) (n : Nat) (s : State) : State :=
  (joinBatch (openBatch m j n s).1 e j (openBatch m j n s).2).2

section

variable (m : Shade) (e : HistoryEntry) (j : JobRecord) (n : Nat) (s : State)

/-- The new batch is the last of the table, with the roll its only one; no other entry holds its number, so none changes. -/
theorem openedAndJoined_batches (hfree : ¬Held s.shade.batches n) :
    (openedAndJoined m e j n s).shade.batches = s.shade.batches ++ [{
      number := n, job := j.number, centre := m, rolls := 1, totalMm := min e.lengthMm (2 ^ 32 - 1), state := .opened,
      stamp := s.shade.nextStamp }] := by
  have hothers : (s.shade.batches.map fun x => if x.number = n then addRoll e.lengthMm x else x) = s.shade.batches := by
    conv_rhs => rw [← List.map_id s.shade.batches]
    exact List.map_congr_left fun b hb => if_neg fun h => hfree ⟨b, hb, h⟩
  simp only [openedAndJoined, joinBatch, openBatch, State.withShade_shade, raiseNotice_shade, withBatchCounter_batches, List.map_append,
    hothers, List.map_singleton, if_true]
  simp only [addRoll, saturate_eq_min, Nat.zero_add]
  rfl

theorem openedAndJoined_nextStamp :
    (openedAndJoined m e j n s).shade.nextStamp = if s.shade.nextStamp < 2 ^ 32 - 1 then s.shade.nextStamp + 1 else 1 := by
  simp only [openedAndJoined, joinBatch, openBatch, State.withShade_shade, raiseNotice_shade, withBatchCounter_nextStamp]
  rfl

theorem openedAndJoined_counters :
    (openedAndJoined m e j n s).shade.headCounter = (withBatchCounter j.number (n + 1) s).headCounter
      ∧ (openedAndJoined m e j n s).shade.tailCounter = (withBatchCounter j.number (n + 1) s).tailCounter := by
  simp only [openedAndJoined, joinBatch, openBatch, State.withShade_shade, raiseNotice_shade, and_self]

theorem openedAndJoined_raises : RaisedOnce .batchNew s (openedAndJoined m e j n s) ∧ NotRaised .offshade s (openedAndJoined m e j n s) :=
  ⟨RaisedOnce.of_raise .batchNew s, (RaisesOnly.raiseNotice (K := [.batchNew]) (by simp) s).others .offshade (by simp)⟩

end

/-! ### O22 -/

theorem gradeChecks_of_gradable {e : HistoryEntry} {j : JobRecord} (hkind : e.kind = .standard ∨ e.kind = .short)
    (hprior : e.carriesPrior = false) (hdefects : e.defects ≤ j.defectLimit) (hplain : e.plain = 0)
    (hsamples : j.minSamples ≤ e.samples) : gradeChecks e j = none := by
  rw [gradeChecks_eq, if_neg, if_neg (Nat.not_lt.mpr hsamples)]
  rw [hprior, hplain]
  rcases hkind with h | h <;> simp [h, hdefects]

/-- Settles O22. -/
theorem nearestBatchIsJoined : Obligations.NearestBatchIsJoined := by
  intro s e j m hj hkind hprior hdefects hplain hsamples hm _
  have hmatch := gradeRoll_of_match hj (gradeChecks_of_gradable hkind hprior hdefects hplain hsamples) hm
  refine ⟨fun hsome => ?join, fun hnone hroom v n hv hle hheld hfree hrange => ?opened, fun hnone hno => ?hold⟩
  case join =>
    obtain ⟨b, hb, hcandidate, hbest, hnearest⟩ := bestCandidate_of_mem hsome
    rw [hmatch, matchBatch_of_candidate hbest]
    exact ⟨b, hb, hcandidate, rfl, rfl, rfl, hnearest, rfl⟩
  case opened =>
    have hfree' : ¬Held s.shade.batches n := fun ⟨b, hb, h⟩ => hfree b hb h
    have hn := freeBatchNumber_eq_some_iff.mpr ⟨hle, hrange, hfree', hheld⟩
    rw [hmatch, matchBatch_of_free (bestCandidate_none hnone) hroom hv hn]
    obtain ⟨hraised, hnotRaised⟩ := openedAndJoined_raises m (measured e) j n s
    obtain ⟨hhead, htail⟩ := openedAndJoined_counters m (measured e) j n s
    refine ⟨rfl, rfl, rfl, hraised, hnotRaised, openedAndJoined_batches m (measured e) j n s hfree',
      openedAndJoined_nextStamp m (measured e) j n s, fun hjob => ?_, fun hother => ?_⟩
    · have hisHead := (isHeadJob_iff _ _).mpr hjob
      rw [withBatchCounter_of_head hisHead] at hhead htail
      exact ⟨hhead, htail⟩
    · have hnot : ¬isHeadJob j.number s = true := by
        intro h
        obtain ⟨head, hsome, hnumber⟩ := (isHeadJob_iff _ _).mp h
        exact hother head hsome hnumber
      rw [withBatchCounter_of_not_head hnot] at hhead htail
      exact ⟨htail, hhead⟩
  case hold =>
    rw [hmatch, matchBatch_of_no_number (bestCandidate_none hnone)
      (hno.imp_right fun ⟨v, hv, hheld⟩ => ⟨v, hv, freeBatchNumber_eq_none hheld⟩)]
    exact ⟨rfl, rfl, rfl, raiseNotice_shade _ _, RaisedOnce.of_raise .offshade s,
      (RaisesOnly.raiseNotice (K := [.offshade]) (by simp) s).others .batchNew (by simp)⟩

end Sys2Proof.Machine

/-! O29: Close Batch and Retire Batch. -/

namespace Sys2Proof.Machine

open Sys2Proof

theorem findBatch_eq_none_iff {n : Nat} {s : State} : findBatch n s = none ↔ ∀ b ∈ s.shade.batches, b.number ≠ n := by
  simp only [findBatch, List.find?_eq_none, beq_iff_eq, ne_eq]

theorem findBatch_beginAnswer (n : Nat) (s : State) : findBatch n (beginAnswer s) = findBatch n s := rfl

/-- Settles O29. -/
theorem batchClosedAndRetired : Obligations.BatchClosedAndRetired := by
  intro s tag number hr
  refine ⟨fun habsent => ?_, fun b hb => ?_⟩
  · have hnone := findBatch_eq_none_iff.mpr habsent
    constructor
    · refine exec_of_serve (r := .closeBatch number) rfl hr rfl rfl ?_ rfl rfl
      simp only [serve, serveCloseBatch, findBatch_beginAnswer, hnone, refusal]
    · refine exec_of_serve (r := .retireBatch number) rfl hr rfl rfl ?_ rfl rfl
      simp only [serve, serveRetireBatch, findBatch_beginAnswer, hnone, refusal]
  · refine ⟨?closed, fun hopen => ?busy, fun hclosed => ?retired⟩
    case closed =>
      refine exec_of_serve (r := .closeBatch number) rfl hr rfl rfl ?_ rfl rfl
      simp only [serve, serveCloseBatch, findBatch_beginAnswer, hb, okAnswer, batchTotals]
      rfl
    case busy =>
      refine exec_of_serve (r := .retireBatch number) rfl hr rfl rfl ?_ rfl rfl
      simp only [serve, serveRetireBatch, findBatch_beginAnswer, hb, if_pos hopen, refusal]
    case retired =>
      have hnotOpen : b.state ≠ .opened := by rw [hclosed]; decide
      refine exec_of_serve (r := .retireBatch number) rfl hr rfl rfl ?_ rfl rfl
      simp only [serve, serveRetireBatch, findBatch_beginAnswer, hb, if_neg hnotOpen, okAnswer, batchTotals]
      rfl

end Sys2Proof.Machine

/-! O25: Reseed Sampling. -/

namespace Sys2Proof.Machine

open Sys2Proof

theorem serveReseedSampling_of_unlocked {s : State} (h : s.shade.seedLock = false) :
    serveReseedSampling s = (s.withShade { s.shade with generator := 1023 }, okAnswer [1, 0x03, 0xFF]) := by
  rw [serveReseedSampling, if_neg (by rw [h]; decide)]
  rfl

theorem serveReseedSampling_of_locked {s : State} (h : s.shade.seedLock = true) :
    serveReseedSampling s = (s, okAnswer (0 :: bytesOf 2 s.shade.generator.toNat)) := by
  rw [serveReseedSampling, if_pos h]
  rfl

/-- Settles O25. -/
theorem reseedSampling : Obligations.ReseedSampling := by
  intro s tag hr
  have hunlocked (h : s.shade.seedLock = false) : exec (.reseedSampling .line tag) s =
      .next (answered .line .reseedSampling tag .ok [1, 0x03, 0xFF] (s.withShade { s.shade with generator := 1023 })) :=
    exec_of_serve (r := .reseedSampling) rfl hr rfl rfl (serveReseedSampling_of_unlocked (s := beginAnswer s) h) rfl rfl
  have hlocked (h : s.shade.seedLock = true) : exec (.reseedSampling .line tag) s =
      .next (answered .line .reseedSampling tag .ok (0 :: bytesOf 2 s.shade.generator.toNat) s) :=
    exec_of_serve (r := .reseedSampling) rfl hr rfl rfl (serveReseedSampling_of_locked (s := beginAnswer s) h) rfl rfl
  refine ⟨hunlocked, hlocked, fun h hseed => ?_⟩
  have hsame : s.withShade { s.shade with generator := 1023 } = s := by rw [← hseed]; rfl
  rw [hunlocked h, hsame]

end Sys2Proof.Machine

/-! O26: Set Seed Lock and Set Broadcast. -/

namespace Sys2Proof.Machine

open Sys2Proof

/-- A setting of at most 1 is one flag, and its byte is the setting. -/
theorem setting_of_le_one {v : BitVec 8} (h : v.toNat ≤ 1) : (v.toNat == 1) = decide (v = 1) ∧ flagByte (decide (v = 1)) = [v] := by
  have hv : v = 0 ∨ v = 1 := by bv_omega
  rcases hv with rfl | rfl <;> decide

/-- Settles O26. -/
theorem seedLockAndBroadcast : Obligations.SeedLockAndBroadcast := by
  intro s tag v hr
  refine ⟨fun hflag => ?_, fun hbad => ?_⟩
  · obtain ⟨hset, hbyte⟩ := setting_of_le_one hflag
    have hnot : ¬1 < v.toNat := by omega
    constructor
    · refine exec_of_serve (r := .setSeedLock v) rfl hr rfl rfl ?_ rfl rfl
      simp only [serve, serveSetSeedLock, if_neg hnot, hset, hbyte, okAnswer]
      rfl
    · refine exec_of_serve (r := .setBroadcast v) rfl hr rfl rfl ?_ rfl rfl
      simp only [serve, serveSetBroadcast, if_neg hnot, hset, hbyte, okAnswer]
      rfl
  · constructor
    · refine exec_of_serve (r := .setSeedLock v) rfl hr rfl rfl ?_ rfl rfl
      simp only [serve, serveSetSeedLock, if_pos hbad, refusal]
    · refine exec_of_serve (r := .setBroadcast v) rfl hr rfl rfl ?_ rfl rfl
      simp only [serve, serveSetBroadcast, if_pos hbad, refusal]

end Sys2Proof.Machine
